-- ==== Sys2Proof/Word.lean ====
section
/-! DEFINITION. The word types of ULDB: the operation word, the sample history, the light mask. -/

namespace Sys2Proof

/-- The operation word, `W[19:0]` (30_encoding.md R60). -/
abbrev OpWord := BitVec 20

/-- The opcode field and `cur_op`: 4 bits (R60, R21). -/
abbrev Opcode := BitVec 4

/-- SampleHistory, and the operands compared with it: `HIST_W = 8` bits (00_scope.md R7, 10_state.md R10). -/
abbrev Hist := BitVec 8

/-- The visual output mask: `LED_W = 11` bits, 0 meaning lit (R7, R17). -/
abbrev LedMask := BitVec 11

end Sys2Proof
end

