-- ==== Sys2Proof/Config.lean ====
section
/-! DEFINITION. What R7 of 00_scope.md fixes for every ULDB, the open parameters as a record, and the
free values of reset. -/

namespace Sys2Proof

namespace Config

/-- `LED_OFF`: every light dark (R7, D3). -/
def ledOff : LedMask := 0x7FF#11

/-- `SEED`: the history written after a wake (R7, D4; log 26). -/
def seed : Hist := 0xE0#8

/-- Settling step (a): released for `N_A = 5` samples (R7, D5; log 26). -/
def aExp : Hist := 0x1F#8
def aMask : Hist := 0x1F#8

/-- Settling step (b): pressed for `N_B = 3` samples (R7, D5; log 26). -/
def bExp : Hist := 0x00#8
def bMask : Hist := 0x07#8

/-- Settling step (c): released for `N_C = 3` samples (R7, D5; log 26). -/
def cExp : Hist := 0x07#8
def cMask : Hist := 0x07#8

/-- The Pattern Engine's "not pressed" (R7, D6). -/
def idleExp : Hist := 0xFF#8
def idleMask : Hist := 0xFF#8

/-- The free values of 10_state.md R35 (D28, I1: "any value"): what the registers it leaves
unspecified hold after the reset turn numbered by the argument. They have no body: nothing can be
proved of a value of theirs (log 5). DESIGN CHOICE, safe. -/
opaque freeSh : Nat → Hist
opaque freeTc : Nat → Nat
opaque freeCurOp : Nat → Opcode
opaque freeOpA : Nat → Hist
opaque freeOpB : Nat → Hist
opaque freeTRef : Nat → Nat

end Config

/-- The open parameters of R7: fixed for one machine, free from machine to machine. They are held in
State as plain data that no step writes, so that a statement about every state is a statement about
every choice of them (log 7). `patterns` is the fixed ordered set of animations (R152, R156): its
length is `NPAT`, the length of entry `p` is `PERIOD(p)`, element `k` of it is `FRAME(p, k)`. -/
structure Params where
  tickW    : Nat
  tickDiv  : Nat
  tapExp   : Hist
  tapMask  : Hist
  patterns : List (List LedMask)
  deriving DecidableEq, Repr

/-- The reference parameters of R7 and D8; `TICK_DIV = 4` is vector Y1's (log 7). -/
def Params.reference : Params where
  tickW    := 8
  tickDiv  := 4
  tapExp   := 0x01#8
  tapMask  := 0x03#8
  patterns := [[0x7FE#11, 0x7FD#11, 0x7FB#11]]

end Sys2Proof
end

