-- ==== Sys2Proof/Syntax.lean ====
section
/-! DEFINITION. The fifteen operations (30_encoding.md R63), one constructor per row of the opcode
table, and the table's match and mask columns. -/

namespace Sys2Proof

/-- The operations of R63, in the order of their opcodes. Operands are those of R62, at their width. -/
inductive Instr where
  | clkStart
  | clkStop
  | waitTick
  | delay (n : BitVec 8)
  | read
  | hasPattern (expected mask : Hist)
  | waitPattern (expected mask : Hist)
  | reset (seed : Hist)
  | armWake
  | sleep
  | ledsOff
  | ledSet (m : LedMask)
  | tickMask
  | tickUnmask
  | sample
  deriving DecidableEq, Repr

/-- The four formats of R61. -/
inductive Format where
  | z
  | a1
  | ab
  | l
  deriving DecidableEq, Repr

/-- One row of the table of R63: a word `W` spells the operation iff `W &&& mask = word`. -/
structure TableRow where
  mnemonic : String
  format   : Format
  word     : OpWord
  mask     : OpWord
  deriving DecidableEq, Repr

/-- The `match` and `mask` columns of R63. -/
def tableRows : List TableRow :=
  [ ⟨"CLK_START",    .z,  0x10000#20, 0xFFFFF#20⟩,
    ⟨"CLK_STOP",     .z,  0x20000#20, 0xFFFFF#20⟩,
    ⟨"WAIT_TICK",    .z,  0x30000#20, 0xFFFFF#20⟩,
    ⟨"DELAY",        .a1, 0x40000#20, 0xF00FF#20⟩,
    ⟨"READ",         .z,  0x50000#20, 0xFFFFF#20⟩,
    ⟨"HAS_PATTERN",  .ab, 0x60000#20, 0xF0000#20⟩,
    ⟨"WAIT_PATTERN", .ab, 0x70000#20, 0xF0000#20⟩,
    ⟨"RESET",        .a1, 0x80000#20, 0xF00FF#20⟩,
    ⟨"ARM_WAKE",     .z,  0x90000#20, 0xFFFFF#20⟩,
    ⟨"SLEEP",        .z,  0xA0000#20, 0xFFFFF#20⟩,
    ⟨"LEDS_OFF",     .z,  0xB0000#20, 0xFFFFF#20⟩,
    ⟨"LED_SET",      .l,  0xC0000#20, 0xFF800#20⟩,
    ⟨"TICK_MASK",    .z,  0xD0000#20, 0xFFFFF#20⟩,
    ⟨"TICK_UNMASK",  .z,  0xE0000#20, 0xFFFFF#20⟩,
    ⟨"SAMPLE",       .z,  0xF0000#20, 0xFFFFF#20⟩ ]

/-- The row of an operation, by its place in the table. -/
def Instr.row : Instr → Fin 15
  | .clkStart        => 0
  | .clkStop         => 1
  | .waitTick        => 2
  | .delay _         => 3
  | .read            => 4
  | .hasPattern _ _  => 5
  | .waitPattern _ _ => 6
  | .reset _         => 7
  | .armWake         => 8
  | .sleep           => 9
  | .ledsOff         => 10
  | .ledSet _        => 11
  | .tickMask        => 12
  | .tickUnmask      => 13
  | .sample          => 14

/-- The blocking operations of R63 ("blocking" in the result column; R46). -/
def Instr.blocking : Instr → Bool
  | .waitTick        => true
  | .delay _         => true
  | .waitPattern _ _ => true
  | .clkStart        => false
  | .clkStop         => false
  | .read            => false
  | .hasPattern _ _  => false
  | .reset _         => false
  | .armWake         => false
  | .sleep           => false
  | .ledsOff         => false
  | .ledSet _        => false
  | .tickMask        => false
  | .tickUnmask      => false
  | .sample          => false

end Sys2Proof
end

