-- ==== Sys2Proof/WellFormed.lean ====
section
/-! DEFINITION. The checks: which 20-bit words spell an operation (R61, R63, R64), and which open
parameters R7 allows. An operand of `Instr` has its width in its type (R62), so a term of `Instr` with an
operand that does not fit its field cannot be built and needs no check. -/

namespace Sys2Proof

/-- A word fits a row of the table: `(W & mask) == match` (R63). -/
def TableRow.fits (r : TableRow) (w : OpWord) : Bool := w &&& r.mask == r.word

/-- A word spells some operation of R63; the others are the reserved encodings of R64. -/
def wordWellFormed (w : OpWord) : Bool := tableRows.any (·.fits w)

/-- The constraints of R7 on the open parameters: `TICK_W >= 8`, `TICK_DIV >= 4`,
`TAP_EXP & ~TAP_MASK = 0`, `NPAT >= 1`, every `PERIOD(p) >= 1`. -/
def Params.wellFormed (p : Params) : Bool :=
  decide (8 ≤ p.tickW) && decide (4 ≤ p.tickDiv) && (p.tapExp &&& ~~~p.tapMask == 0#8)
    && decide (1 ≤ p.patterns.length) && p.patterns.all (fun fs => decide (1 ≤ fs.length))

end Sys2Proof
end

