-- ==== Sys2Proof/Decode.lean ====
section
/-! DEFINITION. The decoder of the operation word, total on all `2^20` words and refusing a reserved
encoding by the case of R64 it falls under; then the encoder. -/

namespace Sys2Proof

/-- The reserved encodings, case by case (R64). -/
inductive Reserved where
  /-- Case 1: `op = 0x0`. -/
  | opcodeZero
  /-- Case 2: a format `Z` opcode with `A != 0` or `B != 0`. -/
  | formatZ
  /-- Case 3: a format `A1` opcode with `B != 0`. -/
  | formatA1
  /-- Case 4: `op = 0xC` with `W[15:11] != 0`. -/
  | formatL
  deriving DecidableEq, Repr

/-- `op = W[19:16]` (R60). -/
def opField (w : OpWord) : Opcode := w.extractLsb' 16 4

/-- `A = W[15:8]` (R60). -/
def aField (w : OpWord) : BitVec 8 := w.extractLsb' 8 8

/-- `B = W[7:0]` (R60). -/
def bField (w : OpWord) : BitVec 8 := w.extractLsb' 0 8

/-- `W[15:11]`, the five bits format `L` wants zero (R61). -/
def spareField (w : OpWord) : BitVec 5 := w.extractLsb' 11 5

/-- `m = W[10:0]` (R62). -/
def mField (w : OpWord) : LedMask := w.extractLsb' 0 11

/-- Format `Z`: no operand, `A` and `B` zero (R61). -/
def decodeZ (w : OpWord) (i : Instr) : Except Reserved Instr :=
  if aField w = 0#8 ∧ bField w = 0#8 then .ok i else .error .formatZ

/-- Format `A1`: one operand in `A`, `B` zero (R61). -/
def decodeA1 (w : OpWord) (f : BitVec 8 → Instr) : Except Reserved Instr :=
  if bField w = 0#8 then .ok (f (aField w)) else .error .formatA1

/-- Format `AB`: two operands, every word legal (R61, R62). -/
def decodeAB (w : OpWord) (f : Hist → Hist → Instr) : Except Reserved Instr :=
  .ok (f (aField w) (bField w))

/-- Format `L`: the light mask, `W[15:11]` zero (R61). -/
def decodeL (w : OpWord) : Except Reserved Instr :=
  if spareField w = 0#5 then .ok (.ledSet (mField w)) else .error .formatL

/-- The decoder: the `op` field selects the row, the must-be-zero fields are checked (R63, R64). -/
def decode (w : OpWord) : Except Reserved Instr :=
  match opField w with
  | 0x1#4 => decodeZ w .clkStart
  | 0x2#4 => decodeZ w .clkStop
  | 0x3#4 => decodeZ w .waitTick
  | 0x4#4 => decodeA1 w .delay
  | 0x5#4 => decodeZ w .read
  | 0x6#4 => decodeAB w .hasPattern
  | 0x7#4 => decodeAB w .waitPattern
  | 0x8#4 => decodeA1 w .reset
  | 0x9#4 => decodeZ w .armWake
  | 0xA#4 => decodeZ w .sleep
  | 0xB#4 => decodeZ w .ledsOff
  | 0xC#4 => decodeL w
  | 0xD#4 => decodeZ w .tickMask
  | 0xE#4 => decodeZ w .tickUnmask
  | 0xF#4 => decodeZ w .sample
  | _     => .error .opcodeZero

/-- `op << 16 | A << 8 | B` (R71). -/
def pack (op : Opcode) (a b : BitVec 8) : OpWord := op ++ a ++ b

/-- Format `L`: `1100 00000 mmmmmmmmmmm` (R61). -/
def packL (m : LedMask) : OpWord := 0xC#4 ++ 0#5 ++ m

/-- The word of an operation (R61 to R63). -/
def encode : Instr → OpWord
  | .clkStart        => pack 0x1#4 0#8 0#8
  | .clkStop         => pack 0x2#4 0#8 0#8
  | .waitTick        => pack 0x3#4 0#8 0#8
  | .delay n         => pack 0x4#4 n 0#8
  | .read            => pack 0x5#4 0#8 0#8
  | .hasPattern e m  => pack 0x6#4 e m
  | .waitPattern e m => pack 0x7#4 e m
  | .reset seed      => pack 0x8#4 seed 0#8
  | .armWake         => pack 0x9#4 0#8 0#8
  | .sleep           => pack 0xA#4 0#8 0#8
  | .ledsOff         => pack 0xB#4 0#8 0#8
  | .ledSet m        => packL m
  | .tickMask        => pack 0xD#4 0#8 0#8
  | .tickUnmask      => pack 0xE#4 0#8 0#8
  | .sample          => pack 0xF#4 0#8 0#8

/-- The operation word among `nbits` table bits: the block's words have 20 bits, so a number with a bit
above them is no word (R60). The table's numbering is the port's, `cmd[i]` is `W[i]` (log 25). -/
def wordOfTable (nbits w : Nat) : Option OpWord :=
  if w % 2 ^ nbits < 2 ^ 20 then some (BitVec.ofNat 20 (w % 2 ^ nbits)) else none

/-- The operation the decoder reads from a word numbered as the opcode table numbers it. -/
def decodeTableWord (nbits w : Nat) : Option Instr :=
  (wordOfTable nbits w).bind fun x => (decode x).toOption

end Sys2Proof
end

