-- ==== Sys2Proof/Machine/State.lean ====
section
/-! DEFINITION. The state of ULDB as plain data: everything 10_state.md names, the outputs of the step
just taken, the reference client's state, and the turns to come. -/

namespace Sys2Proof.Machine

/-- `PowerState` (10_state.md R12). -/
inductive PowerState where
  | sleeping
  | active
  deriving DecidableEq, Repr

/-- `Sleeping = 0`, `Active = 1` (R12, D19). -/
def PowerState.code : PowerState → BitVec 1
  | .sleeping => 0#1
  | .active   => 1#1

/-- `seq`, the controller's sequencer state (R20). Codes 11 to 15 name no step: `unused k` is code
`11 + k` (93_implementation_defined.md I9). -/
inductive SeqState where
  | cStop
  | cLedoff
  | cSleep
  | cAsleep
  | cReseed
  | cStart
  | cSettleA
  | cSettleB
  | cSettleC
  | cDispatch
  | cFun
  | unused (k : Fin 5)
  deriving DecidableEq, Repr

/-- The 4-bit codes of R20 (D19). -/
def SeqState.code : SeqState → BitVec 4
  | .cStop     => 0#4
  | .cLedoff   => 1#4
  | .cSleep    => 2#4
  | .cAsleep   => 3#4
  | .cReseed   => 4#4
  | .cStart    => 5#4
  | .cSettleA  => 6#4
  | .cSettleB  => 7#4
  | .cSettleC  => 8#4
  | .cDispatch => 9#4
  | .cFun      => 10#4
  | .unused k  => BitVec.ofNat 4 (11 + k.val)

/-- The three issuer contexts (60_exceptions.md R180): `I`, `C`, `P` of 30_encoding.md R63. -/
inductive Issuer where
  | isr
  | ctrl
  | client
  deriving DecidableEq, Repr

/-- The causes of a refused word (60_exceptions.md R166). -/
inductive RefuseCode where
  /-- `E_RESERVED`: a reserved encoding (30_encoding.md R64). -/
  | reserved
  /-- `E_ISSUER`: the issuer may not issue this operation (R181). -/
  | issuer
  /-- `E_PRECOND`: SLEEP with `clk_run = 1` (42_power_and_system.md R121). -/
  | precond
  deriving DecidableEq, Repr

/-- `rsp_code` (R166). -/
def RefuseCode.code : RefuseCode → BitVec 2
  | .reserved => 1#2
  | .issuer   => 2#2
  | .precond  => 3#2

/-- How an operation ends for its issuer: `result(v)` or `done` (with data 0, 30_encoding.md R68), or
`refuse(code)` (00_scope.md R9). -/
inductive Reply where
  | done (data : BitVec 8)
  | refuse (code : RefuseCode)
  deriving DecidableEq, Repr

/-- An answer and the issuer it goes to. The client's is the response of 43_pattern_engine.md R151. -/
structure Answer where
  issuer : Issuer
  reply  : Reply
  deriving DecidableEq, Repr

/-- The client port's inputs (10_state.md R30). -/
structure Port where
  cmdValid : Bool
  cmd      : OpWord
  funDone  : Bool
  deriving DecidableEq, Repr

/-- Nothing offered, nothing done. -/
def Port.quiet : Port := ⟨false, 0#20, false⟩

/-- The client offers the word `w`. -/
def Port.offer (w : OpWord) : Port := ⟨true, w, false⟩

/-- The client has finished: `fun_done = 1`, no word offered. -/
def Port.finished : Port := ⟨false, 0#20, true⟩

/-- Who drives the client port in a foreground step: any client at all, with these port values, or the
reference client of 43_pattern_engine.md section 3 (R5). -/
inductive Drive where
  | ports (p : Port)
  | engine
  deriving DecidableEq, Repr

/-- One turn: which agent moves next, with the inputs it brings (20_memory.md R41; log 1). -/
inductive Turn where
  /-- ENV: the pin takes the level `b`, 1 released, 0 pressed (R42). -/
  | pin (b : Bool)
  /-- TIMER: the overflow event fires (R43). -/
  | tick
  /-- FG: the foreground takes its enabled step (R44). -/
  | fg (d : Drive)
  /-- Reset or power-on in the step model (70_reset_and_hazards.md R190, R192). -/
  | reset
  /-- One rising edge of `clk` in the synchronous realisation, with the levels of `rst` and `btn_raw`
  and the client port (R212, R190). -/
  | cycle (rst btn : Bool) (d : Drive)
  /-- A word from an issuer, for the totality 30_encoding.md R65 asks for: the fixed hardware never does
  this for the controller or the handler (log 18). -/
  | word (x : Issuer) (w : OpWord)
  deriving DecidableEq, Repr

/-- The reference client's place in RUN_ALL (43_pattern_engine.md R153, R155). -/
inductive ClientPc where
  /-- Outside an activation. -/
  | idle
  /-- RUN_ONE's entry: WAIT_PATTERN IDLE. -/
  | waitIdleIn
  /-- WAIT_TICK, to phase-align. -/
  | align
  /-- LED_SET FRAME(p, phase); the phase advances. -/
  | draw
  /-- WAIT_TICK of the loop. -/
  | pace
  /-- HAS_PATTERN TAP. -/
  | test
  /-- WAIT_PATTERN IDLE, to re-debounce. -/
  | waitIdleOut
  /-- RUN_ALL has ended: `fun_done` is asserted. -/
  | finished
  deriving DecidableEq, Repr

/-- The reference client's state: PatternState (10_state.md R22, 43_pattern_engine.md R152) and its place. The
widths of `pat_idx` and `phase` are not given (91_not_in_source.md N14): DESIGN CHOICE, the model holds them
as natural numbers, safe (log 31). -/
structure Client where
  pc     : ClientPc
  patIdx : Nat
  phase  : Nat
  deriving DecidableEq, Repr

/-- The faults of ULDB: there are none, "No operation traps, faults or aborts, for any operand value
and in any state" (60_exceptions.md R165; 93_implementation_defined.md section 1). Nothing raises one;
the empty type is safe. -/
inductive Fault where
  deriving DecidableEq, Repr

/-- The refusals of the MODEL (not the refused words of R166, which are next states with an answer). -/
inductive Refusal where
  /-- Raised by an arm of `exec` whose instruction has no meaning yet: no arm does. Safe. -/
  | notModelled (mnemonic : String)
  deriving DecidableEq, Repr

/-- The state. Each field's docstring names the rule that gives it. -/
structure State where
  /-- The open parameters of 00_scope.md R7, written by no step (log 7). -/
  params : Params
  /-- `SH`, SampleHistory, newest sample in bit 0, 0 pressed (R10). -/
  sh : Hist
  /-- `TC`, TickCounter, a `TICK_W`-bit value (R11; log 8). -/
  tc : Nat
  /-- `PowerState` (R12). -/
  powerState : PowerState
  /-- `clk_run` (R13). -/
  clkRun : Bool
  /-- `tie`, tick interrupt enable (R14). -/
  tie : Bool
  /-- `tick_pend` (R15). -/
  tickPend : Bool
  /-- `wake_en` (R16). -/
  wakeEn : Bool
  /-- `led` (R17). -/
  led : LedMask
  /-- `saw_zero` (R18). -/
  sawZero : Bool
  /-- `long` (R19). -/
  long : Bool
  /-- `seq` (R20). -/
  seq : SeqState
  /-- `busy` (R21). -/
  busy : Bool
  /-- `cur_op` (R21). -/
  curOp : Opcode
  /-- `opA` (R21). -/
  opA : Hist
  /-- `opB` (R21). -/
  opB : Hist
  /-- `t_ref`, a `TICK_W`-bit value (R21; log 8). -/
  tRef : Nat
  /-- `btn_raw`, the pin's current level (R30, 20_memory.md R42). -/
  btnRaw : Bool
  /-- `btn_prev`, the level at the edge detector's previous evaluation (R23; log 12). -/
  btnPrev : Bool
  /-- `presc`, the timer's count toward its overflow (R23). -/
  presc : Nat
  /-- The answer given in the step just taken: the port's `rsp_valid`, `rsp_data`, `rsp_err`, `rsp_code`
  when it goes to the client (R31, 43_pattern_engine.md R151; log 10). -/
  answer : Option Answer
  /-- `ev_valid` (R31, 42_power_and_system.md R139). -/
  evValid : Bool
  /-- The reference client (R22, R152). -/
  client : Client
  /-- The model's own: a word is being executed in the ISR context (60_exceptions.md R180; log 17). -/
  isr : Bool
  /-- The model's own: how many reset turns there have been, which selects the free values (log 5). -/
  draws : Nat
  /-- The model's own: the turns to come, next first (log 1). -/
  turns : List Turn
  deriving DecidableEq, Repr

/-- The machine right after reset (R35, 70_reset_and_hazards.md R190). The six registers R35 leaves
unspecified hold 0 (log 4), the pin is released (log 6), the parameters are the reference ones (log 7),
no turn is scheduled. -/
def State.reset : State where
  params     := Params.reference
  sh         := 0x00#8
  tc         := 0
  powerState := .sleeping
  clkRun     := false
  tie        := true
  tickPend   := false
  wakeEn     := true
  led        := Config.ledOff
  sawZero    := false
  long       := false
  seq        := .cAsleep
  busy       := false
  curOp      := 0x0#4
  opA        := 0x00#8
  opB        := 0x00#8
  tRef       := 0
  btnRaw     := true
  btnPrev    := true
  presc      := 0
  answer     := none
  evValid    := false
  client     := ⟨.idle, 0, 0⟩
  isr        := false
  draws      := 0
  turns      := []

end Sys2Proof.Machine
end

