-- ==== Sys2Proof/Machine/Operands.lean ====
section
/-! DEFINITION. Operand assembly (30_encoding.md R62), the arithmetic of the counter (40_sample_clock.md
R87) and of the history (41_debounce_engine.md R106), and the classifier (R110). -/

namespace Sys2Proof.Machine

/-- A number as a `TICK_W`-bit value (00_scope.md R8). -/
def tickMod (p : Params) (v : Nat) : Nat := v % 2 ^ p.tickW

/-- `zext_TICK_W(n)` (R62). -/
def zextTick (p : Params) (n : BitVec 8) : Nat := tickMod p n.toNat

/-- `TC + 1` modulo `2^TICK_W` (R87). -/
def tickSucc (p : Params) (tc : Nat) : Nat := tickMod p (tc + 1)

/-- DELAY's target, `TC + zext_TICK_W(n)` modulo `2^TICK_W` (R85, R87). -/
def delayTarget (p : Params) (tc : Nat) (n : BitVec 8) : Nat := tickMod p (tc + zextTick p n)

/-- SAMPLE's shift: `{ SH[6:0], b }` (R100). -/
def shiftIn (h : Hist) (b : Bool) : Hist := h.extractLsb' 0 7 ++ BitVec.ofBool b

/-- A history has the pattern `(expected, mask)` iff `(H & mask) == expected` (R102). -/
def patternHolds (h expected mask : Hist) : Bool := h &&& mask == expected

/-- The source's `bool` as an 8-bit result: true is `0x01`, false `0x00` (R68). -/
def boolResult (b : Bool) : BitVec 8 := if b then 0x01#8 else 0x00#8

/-- The three logical states of a window (R110). -/
inductive WindowState where
  | pressed
  | released
  | indeterminate
  deriving DecidableEq, Repr

/-- The classifier: the state of the window `mask` of the history `h` (R110, for a non-zero mask). -/
def classify (h mask : Hist) : WindowState :=
  if patternHolds h 0x00#8 mask then .pressed
  else if patternHolds h mask mask then .released
  else .indeterminate

/-- The window of the `k` most recent samples, `mask = 2^k - 1` (R110). -/
def recentWindow (k : Nat) : Hist := BitVec.ofNat 8 (2 ^ k - 1)

end Sys2Proof.Machine
end

