-- ==== Sys2Proof/Machine/Flags.lean ====
section
/-! DEFINITION. The two flags: `saw_zero` (10_state.md R18) and `long` (R19). No other operation sets a flag
(R26). -/

namespace Sys2Proof.Machine

/-- The entry step of WAIT_PATTERN clears `saw_zero` (R18, 41_debounce_engine.md R103). -/
def State.clearSawZero (s : State) : State := { s with sawZero := false }

/-- A poll of WAIT_PATTERN: the zero test, first, on the poll's snapshot; the flag is sticky (R103). -/
def State.observeZero (s : State) (h : Hist) : State := { s with sawZero := s.sawZero || h == 0x00#8 }

/-- `long` takes the result of settling step (c) (R19, 42_power_and_system.md R138). -/
def State.setLong (s : State) (b : Bool) : State := { s with long := b }

end Sys2Proof.Machine
end

