-- ==== Sys2Proof/Machine/Ops.lean ====
section
/-! DEFINITION. The shared operations: who issues, answering and refusing, entering and finishing a wait,
taking the two interrupts, a firing tick, a pin change, reset, and the output ports. -/

namespace Sys2Proof.Machine

/-- Go on after an outcome. -/
def mapNext (o : Host.Outcome State Fault Refusal) (f : State → State) :
    Host.Outcome State Fault Refusal :=
  match o with
  | .next t    => .next (f t)
  | .fault r   => .fault r
  | .refused r => .refused r

/-! ### Issuers -/

/-- The context the operation now executed comes from (60_exceptions.md R180): the client while
`seq = C_FUN`, else the controller; the handler when the ISR context is entered. -/
def State.issuer (s : State) : Issuer :=
  if s.isr then .isr else if s.seq = .cFun then .client else .ctrl

/-- Who may issue what (R181; the issuer column of 30_encoding.md R63). -/
def mayIssue (x : Issuer) (i : Instr) : Bool :=
  match i with
  | .clkStart        => x != .isr
  | .clkStop         => x != .isr
  | .waitTick        => x != .isr
  | .delay _         => x != .isr
  | .read            => x != .isr
  | .hasPattern _ _  => x != .isr
  | .waitPattern _ _ => x != .isr
  | .reset _         => x == .ctrl
  | .armWake         => x == .ctrl
  | .sleep           => x == .ctrl
  | .ledsOff         => x != .isr
  | .ledSet _        => x != .isr
  | .tickMask        => x != .isr
  | .tickUnmask      => x != .isr
  | .sample          => x == .isr

/-! ### Answers (R151, R166) -/

/-- `rsp_valid` and `ev_valid` are 1 only in the step that raises them: a step begins with neither
(R31, R151; log 11). -/
def State.clearPulses (s : State) : State := { s with answer := none, evValid := false }

/-- `result(v)`, and `done` with `v = 0` (00_scope.md R9, 30_encoding.md R68). -/
def State.reply (s : State) (data : BitVec 8) : State :=
  { s with answer := some ⟨s.issuer, .done data⟩ }

/-- `refuse(code)`: no state changes and the issuer is told the code (R9, R166). -/
def State.refuse (s : State) (c : RefuseCode) : State :=
  { s with answer := some ⟨s.issuer, .refuse c⟩ }

/-- Step (2) of the decode order: an operation the issuer may not issue is `refuse(2)`, else it is
executed (30_encoding.md R65). -/
def checkIssuer (i : Instr) (s : State) (k : State → State) : Host.Outcome State Fault Refusal :=
  .next (if mayIssue s.issuer i then k s else s.refuse .issuer)

/-! ### Blocking operations (20_memory.md R46, 10_state.md R21) -/

/-- What every entry step does: latch the opcode and set `busy`. -/
def State.enterWait (s : State) (op : Opcode) : State := { s with curOp := op, busy := true }

/-- What every completing poll step does: clear `busy` and return the result. -/
def State.finishWait (s : State) (data : BitVec 8) : State := { s with busy := false }.reply data

/-! ### Taking an interrupt (60_exceptions.md R168, R171, R175) and returning (R177)

Nothing is saved and nothing is restored; a handler is one atomic step, and the foreground goes on with
the step it would have taken anyway. -/

/-- The TICK handler: SAMPLE, then `TC + 1`, then `tick_pend <- 0` (R168). -/
def tickHandler (s : State) : State :=
  { s with sh := shiftIn s.sh s.btnRaw, tc := tickSucc s.params s.tc, tickPend := false }

/-- The WAKE handler: `wake_en <- 0; PowerState <- Active` (R171). -/
def wakeHandler (s : State) : State := { s with wakeEn := false, powerState := .active }

/-- The timer fires with `clk_run = 1`: serviced if `tie = 1`, else deferred (40_sample_clock.md R80,
20_memory.md R43). -/
def fireTick (s : State) : State :=
  if s.tie then tickHandler s else { s with tickPend := true }

/-- The TICK step: enabled iff `clk_run = 1` (R43; log 14). -/
def tickStep (s : State) : State := if s.clkRun then fireTick s else s

/-- The pin takes the level `b`, and the edge detector has seen it (20_memory.md R42, 10_state.md R23). -/
def State.setPin (s : State) (b : Bool) : State := { s with btnRaw := b, btnPrev := b }

/-- The ENV step: a fall from 1 to 0 with `wake_en = 1` is the wake edge, serviced in the same step; no
other change is an event (R42, R170; log 12). -/
def pinStep (s : State) (b : Bool) : State :=
  if s.btnRaw = true ∧ b = false ∧ s.wakeEn = true then wakeHandler (s.setPin b) else s.setPin b

/-- The edge detector of the realisation: the edge is `btn_prev = 1` and `btn_raw = 0` (R23,
70_reset_and_hazards.md R212 item 1). -/
def edgeStep (s : State) (b : Bool) : State :=
  if s.btnPrev = true ∧ b = false ∧ s.wakeEn = true then wakeHandler (s.setPin b) else s.setPin b

/-! ### Reset -/

/-- The reset event (R190, 10_state.md R35): the registers R35 leaves unspecified take free values
(log 5), the pin keeps its level and `btn_prev` takes it (D38), the parameters and the turns to come
are not the block's (log 27). -/
def resetStep (s : State) : State :=
  { State.reset with
    params  := s.params
    sh      := Config.freeSh s.draws
    tc      := tickMod s.params (Config.freeTc s.draws)
    curOp   := Config.freeCurOp s.draws
    opA     := Config.freeOpA s.draws
    opB     := Config.freeOpB s.draws
    tRef    := tickMod s.params (Config.freeTRef s.draws)
    btnRaw  := s.btnRaw
    btnPrev := s.btnRaw
    draws   := s.draws + 1
    turns   := s.turns }

/-! ### Output ports (10_state.md R31, R32) -/

/-- The outputs of the block. -/
structure Outputs where
  led        : LedMask
  sleeping   : Bool
  funActive  : Bool
  cmdReady   : Bool
  rspValid   : Bool
  rspData    : BitVec 8
  rspErr     : Bool
  rspCode    : BitVec 2
  evValid    : Bool
  evLong     : Bool
  stPressed  : Bool
  stReleased : Bool
  deriving DecidableEq, Repr

/-- The answer on the command port: the client's only (R151; log 10). -/
def State.response (s : State) : Option Reply :=
  match s.answer with
  | some ⟨.client, r⟩ => some r
  | _ => none

/-- The outputs as functions of the state (R31, R32). With no response the response group reads 0
(log 10). -/
def State.outputs (s : State) : Outputs where
  led        := s.led
  sleeping   := s.powerState = .sleeping
  funActive  := s.seq = .cFun
  cmdReady   := s.seq = .cFun ∧ s.busy = false
  rspValid   := s.response.isSome
  rspData    := match s.response with
    | some (.done v) => v
    | _ => 0x00#8
  rspErr     := match s.response with
    | some (.refuse _) => true
    | _ => false
  rspCode    := match s.response with
    | some (.refuse c) => c.code
    | _ => 0#2
  evValid    := s.evValid
  evLong     := s.long
  stPressed  := s.sh = 0x00#8
  stReleased := s.sh = 0xFF#8

end Sys2Proof.Machine
end

