-- ==== Sys2Proof/Machine/Clock.lean ====
section
/-! DEFINITION. The Sample Clock family: CLK_START, CLK_STOP, WAIT_TICK, DELAY (40_sample_clock.md). A
blocking operation's meaning is its entry step; its poll step stands beside it. -/

namespace Sys2Proof.Machine

/-- CLK_START (R82). -/
def execClkStart (s : State) : Host.Outcome State Fault Refusal :=
  checkIssuer .clkStart s fun s =>
    { s with clkRun := true, tc := 0, tickPend := false, presc := 0 }.reply 0x00#8

/-- CLK_STOP (R83). -/
def execClkStop (s : State) : Host.Outcome State Fault Refusal :=
  checkIssuer .clkStop s fun s => { s with clkRun := false, tickPend := false }.reply 0x00#8

/-- WAIT_TICK, entry step: `t_ref <- TC ; cur_op <- 0x3 ; busy <- 1` (R84). -/
def execWaitTick (s : State) : Host.Outcome State Fault Refusal :=
  checkIssuer .waitTick s fun s => { s with tRef := s.tc }.enterWait 0x3#4

/-- DELAY n, entry step: `t_ref <- TC + zext_TICK_W(n) ; opA <- n ; cur_op <- 0x4 ; busy <- 1` (R85). -/
def execDelay (n : BitVec 8) (s : State) : Host.Outcome State Fault Refusal :=
  checkIssuer (.delay n) s fun s =>
    { s with tRef := delayTarget s.params s.tc n, opA := n }.enterWait 0x4#4

/-- A poll of WAIT_TICK: it completes iff `TC != t_ref` (R84). -/
def pollWaitTick (s : State) : State := if s.tc ≠ s.tRef then s.finishWait 0x00#8 else s

/-- A poll of DELAY: it completes iff `TC >= t_ref`, unsigned (R85). -/
def pollDelay (s : State) : State := if s.tRef ≤ s.tc then s.finishWait 0x00#8 else s

end Sys2Proof.Machine
end

