-- ==== Sys2Proof/Machine/Debounce.lean ====
section
/-! DEFINITION. The Debounce Engine family: SAMPLE, READ, HAS_PATTERN, WAIT_PATTERN, RESET
(41_debounce_engine.md), and the result of a pattern wait as a function (R107). -/

namespace Sys2Proof.Machine

/-- SAMPLE: `SH <- { SH[6:0], btn_raw }` (R100). -/
def execSample (s : State) : Host.Outcome State Fault Refusal :=
  checkIssuer .sample s fun s => { s with sh := shiftIn s.sh s.btnRaw }.reply 0x00#8

/-- READ: `result(SH)` (R101). -/
def execRead (s : State) : Host.Outcome State Fault Refusal :=
  checkIssuer .read s fun s => s.reply s.sh

/-- HAS_PATTERN: `result( (SH & mask) == expected )` (R102). -/
def execHasPattern (expected mask : Hist) (s : State) : Host.Outcome State Fault Refusal :=
  checkIssuer (.hasPattern expected mask) s fun s => s.reply (boolResult (patternHolds s.sh expected mask))

/-- WAIT_PATTERN, entry step: `saw_zero <- 0 ; opA <- expected ; opB <- mask ; cur_op <- 0x7 ;
busy <- 1` (R103). -/
def execWaitPattern (expected mask : Hist) (s : State) : Host.Outcome State Fault Refusal :=
  checkIssuer (.waitPattern expected mask) s fun s =>
    { s.clearSawZero with opA := expected, opB := mask }.enterWait 0x7#4

/-- RESET seed: `SH <- seed` (R104). -/
def execReset (seed : Hist) (s : State) : Host.Outcome State Fault Refusal :=
  checkIssuer (.reset seed) s fun s => { s with sh := seed }.reply 0x00#8

/-- A poll of WAIT_PATTERN: one snapshot, the zero test first; it completes iff the snapshot has the
pattern, with `saw_zero` as just updated (R103). -/
def pollWaitPattern (s : State) : State :=
  let t := s.observeZero s.sh
  if patternHolds s.sh s.opA s.opB then t.finishWait (boolResult t.sawZero) else t

/-- `WaitResult(h_0, b, expected, mask)` of R107 over the pin levels `bs` still to be sampled, `z` being
`saw_zero` before the first poll: the number of ticks waited for and the result, or nothing where the
samples run out before the pattern is seen. -/
def waitResultFrom (z : Bool) (h : Hist) (expected mask : Hist) : List Bool → Option (Nat × Bool)
  | [] => if patternHolds h expected mask then some (0, z || h == 0x00#8) else none
  | b :: bs =>
    if patternHolds h expected mask then some (0, z || h == 0x00#8)
    else (waitResultFrom (z || h == 0x00#8) (shiftIn h b) expected mask bs).map
      fun r => (r.1 + 1, r.2)

/-- `WaitResult` (R107): a wait begins with `saw_zero = 0`. -/
def waitResult (h : Hist) (expected mask : Hist) (bs : List Bool) : Option (Nat × Bool) :=
  waitResultFrom false h expected mask bs

end Sys2Proof.Machine
end

