-- ==== Sys2Proof/Machine/Power.lean ====
section
/-! DEFINITION. The power and system family: ARM_WAKE, SLEEP, LEDS_OFF, LED_SET, TICK_MASK, TICK_UNMASK
(42_power_and_system.md). -/

namespace Sys2Proof.Machine

/-- ARM_WAKE: `wake_en <- 1` (R120). -/
def execArmWake (s : State) : Host.Outcome State Fault Refusal :=
  checkIssuer .armWake s fun s => { s with wakeEn := true }.reply 0x00#8

/-- SLEEP: `refuse(3)` with the clock running, else `PowerState <- Sleeping` (R121). -/
def execSleep (s : State) : Host.Outcome State Fault Refusal :=
  checkIssuer .sleep s fun s =>
    if s.clkRun then s.refuse .precond else { s with powerState := .sleeping }.reply 0x00#8

/-- LEDS_OFF: `led <- 0x7FF` (R122). -/
def execLedsOff (s : State) : Host.Outcome State Fault Refusal :=
  checkIssuer .ledsOff s fun s => { s with led := Config.ledOff }.reply 0x00#8

/-- LED_SET m: `led <- m` (R123). -/
def execLedSet (m : LedMask) (s : State) : Host.Outcome State Fault Refusal :=
  checkIssuer (.ledSet m) s fun s => { s with led := m }.reply 0x00#8

/-- TICK_MASK: `tie <- 0` (R124). -/
def execTickMask (s : State) : Host.Outcome State Fault Refusal :=
  checkIssuer .tickMask s fun s => { s with tie := false }.reply 0x00#8

/-- TICK_UNMASK: `tie <- 1`, then the deferred tick is serviced if there is one (R125). -/
def execTickUnmask (s : State) : Host.Outcome State Fault Refusal :=
  checkIssuer .tickUnmask s fun s =>
    let u := { s with tie := true }
    (if u.tickPend then tickHandler u else u).reply 0x00#8

end Sys2Proof.Machine
end

