-- ==== Sys2Proof/Machine/Dispatch.lean ====
section
/-! DEFINITION. One arm per operation: the meaning of each. -/

namespace Sys2Proof.Machine

def exec (i : Instr) (s : State) : Host.Outcome State Fault Refusal :=
  match i with
  | .clkStart => Sys2Proof.Machine.execClkStart s
  | .clkStop => Sys2Proof.Machine.execClkStop s
  | .waitTick => Sys2Proof.Machine.execWaitTick s
  | .delay n => Sys2Proof.Machine.execDelay n s
  | .read => Sys2Proof.Machine.execRead s
  | .hasPattern expected mask => Sys2Proof.Machine.execHasPattern expected mask s
  | .waitPattern expected mask => Sys2Proof.Machine.execWaitPattern expected mask s
  | .reset seed => Sys2Proof.Machine.execReset seed s
  | .armWake => Sys2Proof.Machine.execArmWake s
  | .sleep => Sys2Proof.Machine.execSleep s
  | .ledsOff => Sys2Proof.Machine.execLedsOff s
  | .ledSet m => Sys2Proof.Machine.execLedSet m s
  | .tickMask => Sys2Proof.Machine.execTickMask s
  | .tickUnmask => Sys2Proof.Machine.execTickUnmask s
  | .sample => Sys2Proof.Machine.execSample s

end Sys2Proof.Machine
end

