-- ==== Sys2Proof/Machine/Controller.lean ====
section
/-! DEFINITION. The foreground: a word issued (30_encoding.md R65), the Power-State Controller's transitions
(42_power_and_system.md R130 to R141), acceptance and hand-back (43_pattern_engine.md R151, R140), the poll
step (20_memory.md R46), and the pseudo-operations of R70. -/

namespace Sys2Proof.Machine

/-- A word from the context the state is in, by the decode order of R65: reserved, then issuer, then
precondition, then the operation's rule. -/
def issueWord (w : OpWord) (s : State) : Host.Outcome State Fault Refusal :=
  match decode w with
  | .ok i    => exec i s
  | .error _ => .next (s.refuse .reserved)

/-- The one enabled foreground step (20_memory.md R44). -/
inductive FgMove where
  /-- `PowerState = Sleeping`: the foreground is halted. -/
  | halted
  /-- A poll step of the operation in progress. -/
  | poll
  /-- The controller issues an operation and `seq` becomes `next` (the same state while a wait runs). -/
  | ctrl (i : Instr) (next : SeqState)
  /-- `C_SLEEP`: ARM_WAKE and SLEEP in one step (R133). -/
  | armAndSleep
  /-- `C_ASLEEP`: the resume transition (R141). -/
  | resume
  /-- `C_DISPATCH` (R139). -/
  | dispatch
  /-- `C_FUN` with `fun_done = 1` (R140). -/
  | handBack
  /-- `C_FUN`: the word offered is taken (R151). -/
  | accept (w : OpWord)
  /-- `C_FUN` with nothing offered: no foreground step is enabled. -/
  | quiet
  /-- An unused code of `seq`: no transition is defined (93_implementation_defined.md I9). -/
  | stuck
  deriving DecidableEq, Repr

/-- Which foreground step is enabled, given the client port (R44, R130 to R141, R151, R140: the hand-back
wins over an offered word). -/
def fgMove (p : Port) (s : State) : FgMove :=
  match s.powerState with
  | .sleeping => .halted
  | .active =>
    if s.busy then .poll else
    match s.seq with
    | .cStop     => .ctrl .clkStop .cLedoff
    | .cLedoff   => .ctrl .ledsOff .cSleep
    | .cSleep    => .armAndSleep
    | .cAsleep   => .resume
    | .cReseed   => .ctrl (.reset Config.seed) .cStart
    | .cStart    => .ctrl .clkStart .cSettleA
    | .cSettleA  => .ctrl (.waitPattern Config.aExp Config.aMask) .cSettleA
    | .cSettleB  => .ctrl (.waitPattern Config.bExp Config.bMask) .cSettleB
    | .cSettleC  => .ctrl (.waitPattern Config.cExp Config.cMask) .cSettleC
    | .cDispatch => .dispatch
    | .cFun      => if p.funDone then .handBack else if p.cmdValid then .accept p.cmd else .quiet
    | .unused _  => .stuck

/-- The completing poll step of a settling wait also advances `seq`; step (c)'s result is `long`
(R130, R136 to R138). -/
def settleAdvance (s : State) : State :=
  match s.seq with
  | .cSettleA => { s with seq := .cSettleB }
  | .cSettleB => { s with seq := .cSettleC }
  | .cSettleC => { s.setLong s.sawZero with seq := .cDispatch }
  | .cStop | .cLedoff | .cSleep | .cAsleep | .cReseed | .cStart | .cDispatch | .cFun | .unused _ => s

/-- A poll step of the operation in progress (R46). A context that names no blocking operation has no
poll step and nothing changes (log 16). -/
def pollStep (s : State) : State :=
  match s.curOp with
  | 0x3#4 => pollWaitTick s
  | 0x4#4 => pollDelay s
  | 0x7#4 =>
    let t := pollWaitPattern s
    if t.busy then t else settleAdvance t
  | _ => s

/-- `C_SLEEP`: `wake_en <- 1 ; PowerState <- Sleeping ; seq <- C_ASLEEP` (R133; log 21). -/
def armAndSleep (s : State) : State :=
  { s with wakeEn := true, powerState := .sleeping, seq := .cAsleep }

/-- `C_DISPATCH`: the event `Press(long)`, then the fun mode or the top of the loop (R139). -/
def dispatch (s : State) : State :=
  { s with evValid := true, seq := if s.long then .cFun else .cStop }

/-- What a foreground step does. -/
def runMove (m : FgMove) (s : State) : Host.Outcome State Fault Refusal :=
  match m with
  | .halted      => .next s
  | .poll        => .next (pollStep s)
  | .ctrl i n    => mapNext (exec i s) fun t => { t with seq := n }
  | .armAndSleep => .next (armAndSleep s)
  | .resume      => .next { s with seq := .cReseed }
  | .dispatch    => .next (dispatch s)
  | .handBack    => .next { s with seq := .cStop }
  | .accept w    => issueWord w s
  | .quiet       => .next s
  | .stuck       => .next s

/-- The operation a foreground step executes, if it executes one in that step. -/
def FgMove.issues : FgMove → Option Instr
  | .ctrl i _    => some i
  | .accept w    => (decode w).toOption
  | .halted      => none
  | .poll        => none
  | .armAndSleep => none
  | .resume      => none
  | .dispatch    => none
  | .handBack    => none
  | .quiet       => none
  | .stuck       => none

/-! ### Pseudo-operations: names for fixed sequences (R70) -/

/-- `WAIT_IDLE`. -/
def pseudoWaitIdle : List Instr := [.waitPattern Config.idleExp Config.idleMask]

/-- `GO_SLEEP`; its last two are one atomic step in the controller (R143, R133). -/
def pseudoGoSleep : List Instr := [.clkStop, .ledsOff, .armWake, .sleep]

/-- `SETTLE` (R142). -/
def pseudoSettle : List Instr :=
  [.reset Config.seed, .clkStart, .waitPattern Config.aExp Config.aMask,
   .waitPattern Config.bExp Config.bMask, .waitPattern Config.cExp Config.cMask]

end Sys2Proof.Machine
end

