-- ==== Sys2Proof/Machine/Client.lean ====
section
/-! DEFINITION. The reference client, the Pattern Engine: RUN_ONE and RUN_ALL as the program that drives the
client port (43_pattern_engine.md R152 to R155), and the foreground step with a driver. -/

namespace Sys2Proof.Machine

/-- `NPAT` (00_scope.md R7). -/
def npat (p : Params) : Nat := p.patterns.length

/-- `PERIOD(p)` (R7); 0 for a number that is no pattern (log 23). -/
def period (p : Params) (idx : Nat) : Nat := (p.patterns.getD idx []).length

/-- `FRAME(p, phase)` (R7, R156); every light dark outside the pattern (log 23). -/
def frame (p : Params) (idx phase : Nat) : LedMask := (p.patterns.getD idx []).getD phase Config.ledOff

/-- `phase <- (phase + 1) mod PERIOD(p)` (R153). -/
def nextPhase (p : Params) (idx phase : Nat) : Nat := (phase + 1) % period p idx

/-- The start of RUN_ALL: `pat_idx = 0`, `phase = 0` (10_state.md R22, D40). -/
def Client.start : Client := ⟨.waitIdleIn, 0, 0⟩

/-- The operation the client issues at its place (R153), none when it has nothing to issue. -/
def Client.op (p : Params) (c : Client) : Option Instr :=
  match c.pc with
  | .idle        => none
  | .waitIdleIn  => some (.waitPattern Config.idleExp Config.idleMask)
  | .align       => some .waitTick
  | .draw        => some (.ledSet (frame p c.patIdx c.phase))
  | .pace        => some .waitTick
  | .test        => some (.hasPattern p.tapExp p.tapMask)
  | .waitIdleOut => some (.waitPattern Config.idleExp Config.idleMask)
  | .finished    => none

/-- The port as the client drives it: its operation's word, or `fun_done` at the end (R155). -/
def Client.port (p : Params) (c : Client) : Port :=
  match c.op p with
  | some i => Port.offer (encode i)
  | none   => if c.pc = .finished then Port.finished else Port.quiet

/-- The client after the answer `v` to its operation (R153, R155; log 19). -/
def Client.advance (p : Params) (c : Client) (v : BitVec 8) : Client :=
  match c.pc with
  | .idle        => c
  | .waitIdleIn  => { c with pc := .align }
  | .align       => { c with pc := .draw, phase := 0 }
  | .draw        => { c with pc := .pace, phase := nextPhase p c.patIdx c.phase }
  | .pace        => { c with pc := .test }
  | .test        => if v = 0x00#8 then { c with pc := .draw } else { c with pc := .waitIdleOut }
  | .waitIdleOut =>
    if c.patIdx + 1 < npat p then ⟨.waitIdleIn, c.patIdx + 1, 0⟩ else { c with pc := .finished }
  | .finished    => c

/-- The port values of a foreground step. -/
def Drive.port (d : Drive) (s : State) : Port :=
  match d with
  | .ports p => p
  | .engine  => s.client.port s.params

/-- What the client does in a foreground step from `s` to `t`: it starts RUN_ALL when the block enters
`C_FUN`, withdraws `fun_done` when the block leaves it (R155), and, if it drives the port, goes on when it
is answered (log 19, log 20). -/
def clientAfter (d : Drive) (s t : State) : State :=
  if t.seq = .cFun ∧ s.seq ≠ .cFun then { t with client := Client.start }
  else if t.seq ≠ .cFun ∧ s.seq = .cFun then { t with client := { t.client with pc := .idle } }
  else match d, t.answer with
    | .engine, some ⟨.client, .done v⟩ => { t with client := t.client.advance t.params v }
    | _, _ => t

/-- The FG step (20_memory.md R44) with a driver of the client port. -/
def fgStep (d : Drive) (s : State) : Host.Outcome State Fault Refusal :=
  mapNext (runMove (fgMove (d.port s) s) s) (clientAfter d s)

end Sys2Proof.Machine
end

