-- ==== Sys2Proof/Machine/Realisation.lean ====
section
/-! DEFINITION. The synchronous realisation: one rising edge of `clk` (70_reset_and_hazards.md R212). -/

namespace Sys2Proof.Machine

/-- Item 2 of the cycle executes a CLK_START. -/
def startsClock (d : Drive) (s : State) : Bool := (fgMove (d.port s) s).issues == some .clkStart

/-- Item 3: the prescaler counts while `clk_run = 1`; at `TICK_DIV - 1` it goes to 0 and a tick fires. -/
def countTick (s : State) : State :=
  if s.clkRun then
    if s.presc + 1 = s.params.tickDiv then fireTick { s with presc := 0 }
    else { s with presc := s.presc + 1 }
  else s

/-- Items 1 to 3 with `rst = 0`. Item 2 is taken only if the block was Active before item 1; the prescaler
does not count in the cycle of a CLK_START. -/
def clockEdge (b : Bool) (d : Drive) (s : State) : Host.Outcome State Fault Refusal :=
  let u := edgeStep s b
  match s.powerState with
  | .sleeping => .next (countTick u)
  | .active   => mapNext (fgStep d u) fun t => if startsClock d u then t else countTick t

/-- One rising edge of `clk`: with `rst = 1` every state element takes its reset value and `btn_prev` the
level of the pin (R190). -/
def cycle (rst b : Bool) (d : Drive) (s : State) : Host.Outcome State Fault Refusal :=
  if rst then .next (resetStep { s with btnRaw := b }) else clockEdge b d s

end Sys2Proof.Machine
end

