-- ==== Sys2Proof/Machine/Turns.lean ====
section
/-! DEFINITION. One turn of one agent, the word turn, the input lines of traces (30_encoding.md R69), and the
placing of a word where the next step takes it. -/

namespace Sys2Proof.Machine

/-- The context of the foreground, whatever the handler does (60_exceptions.md R180). -/
def State.fgIssuer (s : State) : Issuer := if s.seq = .cFun then .client else .ctrl

/-- A word turn: the handler may issue at any time, the foreground's context when a foreground step that
is not a poll is enabled (R44); a word of another issuer is not taken (log 18). -/
def wordStep (x : Issuer) (w : OpWord) (s : State) : Host.Outcome State Fault Refusal :=
  match x with
  | .isr => mapNext (issueWord w { s with isr := true }) fun t => { t with isr := false }
  | .ctrl | .client =>
    if s.powerState = .active ∧ s.busy = false ∧ x = s.fgIssuer then issueWord w s else .next s

/-- One turn (20_memory.md R41). -/
def runTurn (e : Turn) (s : State) : Host.Outcome State Fault Refusal :=
  match e with
  | .pin b         => .next (pinStep s b)
  | .tick          => .next (tickStep s)
  | .fg d          => fgStep d s
  | .reset         => .next (resetStep s)
  | .cycle rst b d => cycle rst b d s
  | .word x w      => wordStep x w s

/-- The turn a state takes: its first one, or, with none scheduled, a foreground step with a quiet client
port (log 2). -/
def State.nextTurn (s : State) : Turn := s.turns.headD (.fg (.ports Port.quiet))

/-- The state a turn runs in: the turn is taken from the list and the pulses end. -/
def State.begin (s : State) : State := { s with turns := s.turns.tail }.clearPulses

/-- The input line `@ T(b)`: the pin is set to `b`, then one TICK step (95_test_vectors.md section 1). -/
def lineT (b : Bool) : List Turn := [.pin b, .tick]

/-- The input line `@ PIN(b)`. -/
def linePin (b : Bool) : List Turn := [.pin b]

/-- The state that takes the word `w` in its next step: the foreground is awake and not in a wait, and a
word turn from the foreground's context comes next; SAMPLE, which is the handler's alone, comes from the
handler (log 3). -/
def placeWord (s : State) (w : OpWord) : State :=
  let x : Issuer := if opField w = 0xF#4 then .isr else s.fgIssuer
  { s with powerState := .active, busy := false, turns := .word x w :: s.turns }

end Sys2Proof.Machine
end

