-- ==== Sys2Proof/Machine/Step.lean ====
section
/-! DEFINITION. The step of the machine: the next turn is taken. -/

namespace Sys2Proof.Machine

/-- One step: one turn of one agent (20_memory.md R41). -/
def step (s : State) : Host.Outcome State Fault Refusal := runTurn s.nextTurn s.begin

/-- The state whose next step takes the word numbered as the opcode table numbers it (log 3, log 25). -/
def State.withFetchWord (s : State) (nbits w : Nat) : State :=
  placeWord s ((wordOfTable nbits w).getD 0#20)

end Sys2Proof.Machine
end

