-- ==== Sys2Proof/Machine/Asm.lean ====
section
/-! DEFINITION. The assembly lines of 30_encoding.md R69 as data: a mnemonic and its operands in the
source's argument order, and the pseudo-operations of R70 that are fixed lists. -/

namespace Sys2Proof.Machine

/-- One line: the mnemonic and the operands (R69). -/
structure AsmLine where
  mnemonic : String
  operands : List Nat
  deriving DecidableEq, Repr

/-- The line of an operation (R69). -/
def asmLine : Instr → AsmLine
  | .clkStart        => ⟨"CLK_START", []⟩
  | .clkStop         => ⟨"CLK_STOP", []⟩
  | .waitTick        => ⟨"WAIT_TICK", []⟩
  | .delay n         => ⟨"DELAY", [n.toNat]⟩
  | .read            => ⟨"READ", []⟩
  | .hasPattern e m  => ⟨"HAS_PATTERN", [e.toNat, m.toNat]⟩
  | .waitPattern e m => ⟨"WAIT_PATTERN", [e.toNat, m.toNat]⟩
  | .reset seed      => ⟨"RESET", [seed.toNat]⟩
  | .armWake         => ⟨"ARM_WAKE", []⟩
  | .sleep           => ⟨"SLEEP", []⟩
  | .ledsOff         => ⟨"LEDS_OFF", []⟩
  | .ledSet m        => ⟨"LED_SET", [m.toNat]⟩
  | .tickMask        => ⟨"TICK_MASK", []⟩
  | .tickUnmask      => ⟨"TICK_UNMASK", []⟩
  | .sample          => ⟨"SAMPLE", []⟩

/-- An operand that fits its width (R62). -/
def fitOperand (width n : Nat) : Option (BitVec width) :=
  if n < 2 ^ width then some (BitVec.ofNat width n) else none

/-- The operation of a mnemonic without operands. -/
def assembleZ (name : String) : Option Instr :=
  if name = "CLK_START" then some .clkStart
  else if name = "CLK_STOP" then some .clkStop
  else if name = "WAIT_TICK" then some .waitTick
  else if name = "READ" then some .read
  else if name = "ARM_WAKE" then some .armWake
  else if name = "SLEEP" then some .sleep
  else if name = "LEDS_OFF" then some .ledsOff
  else if name = "TICK_MASK" then some .tickMask
  else if name = "TICK_UNMASK" then some .tickUnmask
  else if name = "SAMPLE" then some .sample
  else none

/-- The operation of a mnemonic with one operand. -/
def assemble1 (name : String) (x : Nat) : Option Instr :=
  if name = "DELAY" then (fitOperand 8 x).map .delay
  else if name = "RESET" then (fitOperand 8 x).map .reset
  else if name = "LED_SET" then (fitOperand 11 x).map .ledSet
  else none

/-- The operation of a mnemonic with two operands. -/
def assemble2 (name : String) (x y : Nat) : Option Instr :=
  (fitOperand 8 x).bind fun e => (fitOperand 8 y).bind fun m =>
    if name = "HAS_PATTERN" then some (.hasPattern e m)
    else if name = "WAIT_PATTERN" then some (.waitPattern e m)
    else none

/-- The operation a line spells, nothing for a line that spells none (R69). -/
def assembleLine (l : AsmLine) : Option Instr :=
  match l.operands with
  | []     => assembleZ l.mnemonic
  | [x]    => assemble1 l.mnemonic x
  | [x, y] => assemble2 l.mnemonic x y
  | _      => none

/-- The expansion of a line: a pseudo-operation that is a fixed list, or one operation (R70). -/
def expandLine (l : AsmLine) : Option (List Instr) :=
  if l = ⟨"WAIT_IDLE", []⟩ then some pseudoWaitIdle
  else if l = ⟨"GO_SLEEP", []⟩ then some pseudoGoSleep
  else if l = ⟨"SETTLE", []⟩ then some pseudoSettle
  else (assembleLine l).map fun i => [i]

end Sys2Proof.Machine
end

