-- ==== Sys2Proof/Safety.lean ====
section
/-! DEFINITION. What a safe run is, in the terms the statements use: runs, schedules, the invariant of the
fixed controller, and the stalls of the spec. -/

namespace Sys2Proof.Machine

/-- `n` steps of the machine (`Host.Core.run` of `Sys2Proof.core`: Laws/Ops.lean, `run_eq_host`). -/
def run : Nat → State → Host.Outcome State Fault Refusal
  | 0, s => .next s
  | n + 1, s =>
    match step s with
    | .next t    => run n t
    | .fault r   => .fault r
    | .refused r => .refused r

/-- A turn the fixed hardware can take: every one but the word turn (log 18). -/
def Turn.hardware : Turn → Bool
  | .pin _       => true
  | .tick        => true
  | .fg _        => true
  | .reset       => true
  | .cycle _ _ _ => true
  | .word _ _    => false

/-- A turn that resets the block (70_reset_and_hazards.md R190). -/
def Turn.resets : Turn → Bool
  | .pin _         => false
  | .tick          => false
  | .fg _          => false
  | .reset         => true
  | .cycle rst _ _ => rst
  | .word _ _      => false

/-- A turn in which the reference client does not drive the port. -/
def Turn.otherClient : Turn → Bool
  | .pin _                  => true
  | .tick                   => true
  | .fg (.ports _)          => true
  | .fg .engine             => false
  | .reset                  => true
  | .cycle _ _ (.ports _)   => true
  | .cycle _ _ .engine      => false
  | .word _ _               => true

/-- A foreground turn with a quiet client port. -/
def quietFg : Turn := .fg (.ports Port.quiet)

/-- A foreground turn in which the client offers the word of `i`. -/
def offerFg (i : Instr) : Turn := .fg (.ports (Port.offer (encode i)))

/-- One tick per pin level, each followed by one foreground step: the densest schedule that satisfies
`DENSE_POLL` (20_memory.md R47). -/
def denseTurns (bs : List Bool) : List Turn := bs.flatMap fun b => lineT b ++ [quietFg]

/-- `DENSE_POLL` (R47) of a schedule, `polled` saying that the foreground has had a step since the last
tick: between two ticks the foreground takes at least one step. A clock cycle has its foreground step
before its tick. -/
def densePollFrom (polled : Bool) : List Turn → Bool
  | []                   => true
  | .tick :: es          => polled && densePollFrom false es
  | .fg _ :: es          => densePollFrom true es
  | .pin _ :: es         => densePollFrom polled es
  | .reset :: es         => densePollFrom true es
  | .cycle _ _ _ :: es   => densePollFrom false es
  | .word _ _ :: es      => densePollFrom polled es

/-- A turn that stays inside a critical section of the client (20_memory.md R49): the pin, the timer, and a
foreground step that neither closes the section, nor restarts the clock, nor hands back. -/
def Turn.inSection : Turn → Bool
  | .pin _          => true
  | .tick           => true
  | .fg (.ports p)  =>
    !p.funDone && (decode p.cmd).toOption != some .tickUnmask && (decode p.cmd).toOption != some .clkStart
  | .fg .engine     => false
  | .reset          => false
  | .cycle _ _ _    => false
  | .word _ _       => false

/-- The history `h_k` of 41_debounce_engine.md R107: `h` after the first `k` of the samples `bs`. -/
def historyAfter (h : Hist) (bs : List Bool) (k : Nat) : Hist := (bs.take k).foldl shiftIn h

/-- The controller's states in which the clock is stopped: from C_STOP's step to CLK_START
(42_power_and_system.md R130). -/
def SeqState.clockOff : SeqState → Bool
  | .cLedoff | .cSleep | .cAsleep | .cReseed | .cStart => true
  | .cStop | .cSettleA | .cSettleB | .cSettleC | .cDispatch | .cFun | .unused _ => false

/-- The controller's states in which the clock runs: from CLK_START to the dispatch (R130). -/
def SeqState.clockOn : SeqState → Bool
  | .cSettleA | .cSettleB | .cSettleC | .cDispatch => true
  | .cStop | .cLedoff | .cSleep | .cAsleep | .cReseed | .cStart | .cFun | .unused _ => false

/-- The controller's states in which the lights are dark: from LEDS_OFF to the dispatch (R130, R143). -/
def SeqState.dark : SeqState → Bool
  | .cSleep | .cAsleep | .cReseed | .cStart | .cSettleA | .cSettleB | .cSettleC | .cDispatch => true
  | .cStop | .cLedoff | .cFun | .unused _ => false

/-- The wait of a settling state (R136 to R138), none in any other state. -/
def SeqState.settleWait : SeqState → Option (Hist × Hist)
  | .cSettleA => some (Config.aExp, Config.aMask)
  | .cSettleB => some (Config.bExp, Config.bMask)
  | .cSettleC => some (Config.cExp, Config.cMask)
  | .cStop | .cLedoff | .cSleep | .cAsleep | .cReseed | .cStart | .cDispatch | .cFun | .unused _ => none

/-- A wait in progress that belongs where the controller is: a client's in `C_FUN`, the settling wait in a
settling state (10_state.md R21, R130). -/
def waitBelongs (s : State) : Bool :=
  match s.seq with
  | .cFun => s.curOp == 0x3#4 || s.curOp == 0x4#4 || s.curOp == 0x7#4
  | q     => s.curOp == 0x7#4 && q.settleWait == some (s.opA, s.opB)

/-- The invariant of the fixed controller: what the spec says of every state its sequence reaches. -/
structure Inv (s : State) : Prop where
  /-- The parameters are ones 00_scope.md R7 allows. -/
  params_ok : s.params.wellFormed = true
  /-- `TC` has `TICK_W` bits (10_state.md R11). -/
  tc_lt : s.tc < 2 ^ s.params.tickW
  /-- `t_ref` has `TICK_W` bits (R21). -/
  tRef_lt : s.tRef < 2 ^ s.params.tickW
  /-- `presc` counts to `TICK_DIV - 1` (R23). -/
  presc_lt : s.presc < s.params.tickDiv
  /-- Between steps no handler runs (60_exceptions.md R176). -/
  no_handler : s.isr = false
  /-- The edge detector has seen the pin (R23). -/
  pin_seen : s.btnPrev = s.btnRaw
  /-- Only the fixed hardware's turns are to come (log 18). -/
  hardware : ∀ e ∈ s.turns, e.hardware = true
  /-- "no rule ever writes these codes" (R20). -/
  seq_used : ∀ k, s.seq ≠ .unused k
  /-- Asleep: at `C_ASLEEP`, armed, no wait (60_exceptions.md R186, 20_memory.md R44). -/
  asleep : s.powerState = .sleeping → s.seq = .cAsleep ∧ s.wakeEn = true ∧ s.busy = false
  /-- `wake_en = 1` implies `PowerState = Sleeping` (42_power_and_system.md R133). -/
  armed_asleep : s.wakeEn = true → s.powerState = .sleeping
  /-- The clock is stopped from C_STOP to CLK_START (R130, R25). -/
  clock_off : s.seq.clockOff = true → s.clkRun = false
  /-- The clock runs from CLK_START to the dispatch (R130). -/
  clock_on : s.seq.clockOn = true → s.clkRun = true
  /-- The lights are dark from LEDS_OFF to the dispatch (R130, R143). -/
  lights_dark : s.seq.dark = true → s.led = Config.ledOff
  /-- A wait in progress belongs where the controller is (R21). -/
  wait_belongs : s.busy = true → waitBelongs s = true
  /-- A pending tick was masked and its clock runs (42_power_and_system.md R125). -/
  pending : s.tickPend = true → s.clkRun = true ∧ s.tie = false
  /-- The client has the foreground only after a long press (R139). -/
  fun_long : s.seq = .cFun → s.long = true
  /-- Outside `C_FUN` the reference client is idle (43_pattern_engine.md R155). -/
  client_idle : s.seq ≠ .cFun → s.client.pc = .idle
  /-- `pat_idx` in `0 .. NPAT - 1` (R152). -/
  pat_lt : s.client.patIdx < npat s.params
  /-- `phase` in `0 .. PERIOD(pat_idx) - 1` (R152). -/
  phase_lt : s.client.phase < period s.params s.client.patIdx

/-- A WAIT_TICK or a DELAY that waits on a stopped or masked clock (40_sample_clock.md R88). -/
structure ClockStall (s : State) : Prop where
  active : s.powerState = .active
  busy : s.busy = true
  waiting : (s.curOp = 0x3#4 ∧ s.tc = s.tRef) ∨ (s.curOp = 0x4#4 ∧ s.tc < s.tRef)
  no_tick : s.clkRun = false ∨ s.tie = false
  no_reset : ∀ e ∈ s.turns, e.resets = false

/-- A WAIT_PATTERN on a pattern with `expected & ~mask != 0` (70_reset_and_hazards.md R208). -/
structure PatternStall (s : State) : Prop where
  active : s.powerState = .active
  busy : s.busy = true
  waiting : s.curOp = 0x7#4
  unsatisfiable : s.opA &&& ~~~s.opB ≠ 0#8
  no_reset : ∀ e ∈ s.turns, e.resets = false

/-- A WAIT_PATTERN whose pattern the history does not have, on a stopped or masked clock (40_sample_clock.md
R83, 41_debounce_engine.md R103, 70_reset_and_hazards.md R202). Only hardware turns are to come: a SAMPLE word
of the word turn (log 18) would write the history. -/
structure PatternClockStall (s : State) : Prop where
  active : s.powerState = .active
  busy : s.busy = true
  waiting : s.curOp = 0x7#4
  unmatched : s.sh &&& s.opB ≠ s.opA
  no_tick : s.clkRun = false ∨ s.tie = false
  no_reset : ∀ e ∈ s.turns, e.resets = false
  hardware : ∀ e ∈ s.turns, e.hardware = true

/-- Asleep with no wake source: the lost wake-up (70_reset_and_hazards.md R203). -/
structure LostWakeUp (s : State) : Prop where
  asleep : s.powerState = .sleeping
  disarmed : s.wakeEn = false
  no_reset : ∀ e ∈ s.turns, e.resets = false

end Sys2Proof.Machine
end

