-- ==== Sys2Proof/Certificates/Slice0/Obligations.lean ====
section
/-! DEFINITION. The statements for the provers. Each docstring says which rules it formalises; OBLIGATIONS.json
lists them. `s.begin` is `s` with the turn taken and the pulses of the step before ended; that every agent's
turn ends them is the model's reading (log 11). -/

open Sys2Proof Sys2Proof.Machine

/-! ### Encoding (30_encoding.md) -/

/-- R61 to R63: the decoder reads back every operation the encoder writes, operands and all. -/
def Obligations.DecodeOfEncodeIsTheInstruction : Prop :=
  ∀ i : Instr, decode (encode i) = .ok i

/-- R63: a word spells at most one operation, and that operation's word is the word. -/
def Obligations.EncodeOfDecodeIsTheWord : Prop :=
  ∀ (w : OpWord) (i : Instr), decode w = .ok i → encode i = w

/-- R63: a word spells an operation iff `(W & mask) == match` of the operation's row. -/
def Obligations.DecoderFollowsMatchAndMask : Prop :=
  ∀ (w : OpWord) (r : Fin 15), (∃ i, decode w = .ok i ∧ i.row = r) ↔ (tableRows[r]).fits w = true

/-- R64: the four cases of reserved encodings are all of them, every other word spells exactly one
operation, and a reserved encoding is refused with code 1 and changes nothing else. -/
def Obligations.ReservedEncodingsAreTheFourCases : Prop :=
  ∀ w : OpWord,
    (decode w = .error .opcodeZero ↔ opField w = 0x0#4) ∧
    (decode w = .error .formatZ ↔
      opField w ∈ [0x1#4, 0x2#4, 0x3#4, 0x5#4, 0x9#4, 0xA#4, 0xB#4, 0xD#4, 0xE#4, 0xF#4] ∧
        (aField w ≠ 0x00#8 ∨ bField w ≠ 0x00#8)) ∧
    (decode w = .error .formatA1 ↔ opField w ∈ [0x4#4, 0x8#4] ∧ bField w ≠ 0x00#8) ∧
    (decode w = .error .formatL ↔ opField w = 0xC#4 ∧ spareField w ≠ 0#5) ∧
    ((∀ c, decode w ≠ .error c) → ∃ i, decode w = .ok i ∧ ∀ j, encode j = w → j = i) ∧
    (∀ c, decode w = .error c → ∀ s : State,
      issueWord w s = .next { s with answer := some ⟨s.issuer, .refuse .reserved⟩ } ∧
      RefuseCode.reserved.code = 1#2)

/-- R71: the words of all the encoding examples decode to their operations, and the reserved ones fall under
the case of R64 the table names. -/
def Obligations.ExampleWordsDecode : Prop :=
  decode 0x10000#20 = .ok .clkStart ∧ decode 0x20000#20 = .ok .clkStop ∧
  decode 0x30000#20 = .ok .waitTick ∧ decode 0x40500#20 = .ok (.delay 5#8) ∧
  decode 0x50000#20 = .ok .read ∧ decode 0x60003#20 = .ok (.hasPattern 0x00#8 0x03#8) ∧
  decode 0x6FFFF#20 = .ok (.hasPattern 0xFF#8 0xFF#8) ∧
  decode 0x7FFFF#20 = .ok (.waitPattern 0xFF#8 0xFF#8) ∧ decode 0x8E000#20 = .ok (.reset 0xE0#8) ∧
  decode 0x90000#20 = .ok .armWake ∧ decode 0xA0000#20 = .ok .sleep ∧
  decode 0xB0000#20 = .ok .ledsOff ∧ decode 0xC0555#20 = .ok (.ledSet 0x555#11) ∧
  decode 0xC07FF#20 = .ok (.ledSet 0x7FF#11) ∧ decode 0xD0000#20 = .ok .tickMask ∧
  decode 0xE0000#20 = .ok .tickUnmask ∧ decode 0xF0000#20 = .ok .sample ∧
  decode 0x00000#20 = .error .opcodeZero ∧ decode 0x10001#20 = .error .formatZ ∧
  decode 0x40501#20 = .error .formatA1 ∧ decode 0xC0800#20 = .error .formatL ∧
  decode 0x5FF00#20 = .error .formatZ

/-- R69: the assembly line of an operation assembles to that operation. -/
def Obligations.AssemblyLinesRoundTrip : Prop :=
  ∀ i : Instr, assembleLine (asmLine i) = some i

/-! ### A step runs the decoded operation -/

/-- R151, R65: in the acceptance step an offered word that spells `i` runs `i`, and a reserved word is
refused with code 1; only the turn is taken and the last step's pulses end (log 11) around it. -/
def Obligations.OfferedWordRunsItsInstruction : Prop :=
  ∀ (s : State) (w : OpWord) (es : List Turn), s.turns = .fg (.ports (Port.offer w)) :: es →
    s.powerState = .active → s.busy = false → s.seq = .cFun → s.isr = false →
    (∀ i, decode w = .ok i → step s = exec i s.begin) ∧
    (∀ c, decode w = .error c →
      step s = .next { s.begin with answer := some ⟨.client, .refuse .reserved⟩ })

/-- R65, for the word turn (the model's own, log 18) and `withFetchWord` (log 3): the word of `i` placed in a
state runs `i` in the next step, from the foreground's context, and SAMPLE from the handler's; the pulses end
(log 11). -/
def Obligations.PlacedWordRunsItsInstruction : Prop :=
  ∀ (s : State) (i : Instr), s.isr = false →
    (i ≠ .sample → step (s.withFetchWord 24 (encode i).toNat) =
      exec i { s with powerState := .active, busy := false, answer := none, evValid := false }) ∧
    (i = .sample → step (s.withFetchWord 24 (encode i).toNat) =
      mapNext (exec i { s with
          powerState := .active, busy := false, answer := none, evValid := false, isr := true })
        fun t => { t with isr := false })

/-! ### The operations: effect, answer, and nothing else

Each equation gives the whole next state, so it is the operation's frame too. The field `answer` holds what the
issuer is told and who the issuer is: the client's is the port's response (R151), that of the controller and
of the handler is kept as well (log 10). -/

/-- R82: CLK_START. -/
def Obligations.ClkStartRestartsTheClock : Prop :=
  encode .clkStart = 0x10000#20 ∧
  ∀ s : State, s.issuer ≠ .isr → exec .clkStart s =
    .next { s with clkRun := true, tc := 0, tickPend := false, presc := 0,
                   answer := some ⟨s.issuer, .done 0x00#8⟩ }

/-- R83: CLK_STOP; after it a tick does nothing. -/
def Obligations.ClkStopFreezesHistoryAndCounter : Prop :=
  encode .clkStop = 0x20000#20 ∧
  ∀ s : State, s.issuer ≠ .isr → exec .clkStop s =
    .next { s with clkRun := false, tickPend := false, answer := some ⟨s.issuer, .done 0x00#8⟩ } ∧
    ∀ t, exec .clkStop s = .next t → tickStep t = t

/-- R84, R85, R103: the entry steps of WAIT_TICK, DELAY and WAIT_PATTERN latch what the wait needs, set
`busy`, and answer nothing yet. -/
def Obligations.BlockingOperationsEnterTheirWaits : Prop :=
  ∀ s : State, s.issuer ≠ .isr →
    exec .waitTick s = .next { s with tRef := s.tc, curOp := 0x3#4, busy := true } ∧
    (∀ n : BitVec 8, exec (.delay n) s =
      .next { s with tRef := (s.tc + n.toNat % 2 ^ s.params.tickW) % 2 ^ s.params.tickW, opA := n,
                     curOp := 0x4#4, busy := true }) ∧
    (∀ expected mask : Hist, exec (.waitPattern expected mask) s =
      .next { s with sawZero := false, opA := expected, opB := mask, curOp := 0x7#4, busy := true })

/-- R100: SAMPLE shifts the pin into the history; from the foreground it is refused. -/
def Obligations.SampleShiftsThePinIn : Prop :=
  encode .sample = 0xF0000#20 ∧
  (∀ s : State, s.issuer = .isr → exec .sample s =
    .next { s with sh := s.sh.extractLsb' 0 7 ++ BitVec.ofBool s.btnRaw,
                   answer := some ⟨.isr, .done 0x00#8⟩ }) ∧
  (∀ s : State, s.issuer ≠ .isr → exec .sample s =
    .next { s with answer := some ⟨s.issuer, .refuse .issuer⟩ })

/-- R101: READ returns the history and changes nothing. -/
def Obligations.ReadReturnsTheHistory : Prop :=
  encode .read = 0x50000#20 ∧
  ∀ s : State, s.issuer ≠ .isr →
    exec .read s = .next { s with answer := some ⟨s.issuer, .done s.sh⟩ }

/-- R102: HAS_PATTERN returns 1 iff `(SH & mask) == expected`, and changes nothing. -/
def Obligations.HasPatternComparesUnderTheMask : Prop :=
  ∀ (s : State) (expected mask : Hist), s.issuer ≠ .isr →
    encode (.hasPattern expected mask) = 0x6#4 ++ expected ++ mask ∧
    exec (.hasPattern expected mask) s =
      .next { s with answer := some ⟨s.issuer, .done (if s.sh &&& mask = expected then 0x01#8 else 0x00#8)⟩ } ∧
    (expected &&& ~~~mask ≠ 0x00#8 → s.sh &&& mask ≠ expected)

/-- R104: RESET overwrites the history, and an immediate READ returns the seed; from the client RESET is
refused. -/
def Obligations.ResetOverwritesTheHistory : Prop :=
  (∀ seed : Hist, encode (.reset seed) = 0x8#4 ++ seed ++ 0x00#8) ∧
  (∀ (s : State) (seed : Hist), s.issuer = .ctrl → exec (.reset seed) s =
    .next { s with sh := seed, answer := some ⟨.ctrl, .done 0x00#8⟩ } ∧
    ∀ t, exec (.reset seed) s = .next t →
      exec .read t = .next { t with answer := some ⟨.ctrl, .done seed⟩ }) ∧
  (∀ (s : State) (seed : Hist), s.issuer = .client → exec (.reset seed) s =
    .next { s with answer := some ⟨.client, .refuse .issuer⟩ })

/-- R120, R121: ARM_WAKE arms whatever the pin is; SLEEP sleeps with the clock stopped, armed or not, and is
refused with code 3 (R166) with the clock running; both are refused with code 2 from the client. -/
def Obligations.ArmWakeArmsAndSleepSleeps : Prop :=
  encode .armWake = 0x90000#20 ∧ encode .sleep = 0xA0000#20 ∧
  RefuseCode.precond.code = 3#2 ∧ RefuseCode.issuer.code = 2#2 ∧
  (∀ s : State, s.issuer = .ctrl →
    exec .armWake s = .next { s with wakeEn := true, answer := some ⟨.ctrl, .done 0x00#8⟩ } ∧
    (s.clkRun = false → exec .sleep s =
      .next { s with powerState := .sleeping, answer := some ⟨.ctrl, .done 0x00#8⟩ }) ∧
    (s.clkRun = true → exec .sleep s =
      .next { s with answer := some ⟨.ctrl, .refuse .precond⟩ })) ∧
  (∀ s : State, s.issuer = .client →
    exec .armWake s = .next { s with answer := some ⟨.client, .refuse .issuer⟩ } ∧
    exec .sleep s = .next { s with answer := some ⟨.client, .refuse .issuer⟩ })

/-- R122, R123: LEDS_OFF and LED_SET write the mask; `LED_SET 0x7FF` equals LEDS_OFF; a LED_SET word with
`W[15:11] != 0` is reserved. -/
def Obligations.LedOperationsWriteTheMask : Prop :=
  encode .ledsOff = 0xB0000#20 ∧ (∀ m : LedMask, encode (.ledSet m) = 0xC#4 ++ 0#5 ++ m) ∧
  (∀ w : OpWord, opField w = 0xC#4 → spareField w ≠ 0#5 → decode w = .error .formatL) ∧
  ∀ s : State, s.issuer ≠ .isr →
    exec .ledsOff s = .next { s with led := 0x7FF#11, answer := some ⟨s.issuer, .done 0x00#8⟩ } ∧
    (∀ m : LedMask, exec (.ledSet m) s =
      .next { s with led := m, answer := some ⟨s.issuer, .done 0x00#8⟩ }) ∧
    exec (.ledSet 0x7FF#11) s = exec .ledsOff s

/-- R124, R125: TICK_MASK masks, and a tick that fires then pends and is not serviced; TICK_UNMASK unmasks and
services the deferred tick, if there is one, with the pin as it is then. -/
def Obligations.TickMaskDefersAndUnmaskServices : Prop :=
  encode .tickMask = 0xD0000#20 ∧ encode .tickUnmask = 0xE0000#20 ∧
  ∀ s : State, s.issuer ≠ .isr →
    exec .tickMask s = .next { s with tie := false, answer := some ⟨s.issuer, .done 0x00#8⟩ } ∧
    (∀ t, exec .tickMask s = .next t → fireTick t = { t with tickPend := true }) ∧
    (s.tickPend = false → exec .tickUnmask s =
      .next { s with tie := true, answer := some ⟨s.issuer, .done 0x00#8⟩ }) ∧
    (s.tickPend = true → exec .tickUnmask s =
      .next { s with tie := true, sh := s.sh.extractLsb' 0 7 ++ BitVec.ofBool s.btnRaw,
                     tc := (s.tc + 1) % 2 ^ s.params.tickW, tickPend := false,
                     answer := some ⟨s.issuer, .done 0x00#8⟩ })

/-- R181, R166: an operation its issuer may not issue is refused with code 2 and changes nothing else; who may
issue what. -/
def Obligations.IssuerCheckRefusesWithCodeTwo : Prop :=
  (∀ (i : Instr) (s : State), mayIssue s.issuer i = false →
    exec i s = .next { s with answer := some ⟨s.issuer, .refuse .issuer⟩ }) ∧
  RefuseCode.issuer.code = 2#2 ∧
  (∀ i : Instr, (mayIssue .isr i = true ↔ i = .sample) ∧ (mayIssue .ctrl i = true ↔ i ≠ .sample) ∧
    (mayIssue .client i = true ↔
      i ≠ .sample ∧ i ≠ .armWake ∧ i ≠ .sleep ∧ ∀ seed, i ≠ .reset seed))

/-- R84, R85, R103, R46: the poll steps of a client's wait, whoever drives the port. WAIT_TICK completes iff
`TC != t_ref`, DELAY iff `TC >= t_ref`, WAIT_PATTERN iff the one snapshot has the pattern, after that
snapshot's zero test. A poll that does not complete changes nothing, but for `saw_zero` and the pulses
(log 11). (`c` is the reference client after its wait, itself if another client drives the port; where it goes
is ReferenceClientRunsItsSequence's matter, log 19.) -/
def Obligations.PollStepsOfTheThreeWaits : Prop :=
  ∀ (s : State) (d : Drive) (es : List Turn), s.turns = .fg d :: es →
    s.powerState = .active → s.busy = true → s.seq = .cFun → s.isr = false →
    ∃ c : Client, (∀ p, d = .ports p → c = s.client) ∧
    (s.curOp = 0x3#4 → step s = .next
      (if s.tc ≠ s.tRef then
         { s.begin with busy := false, answer := some ⟨.client, .done 0x00#8⟩, client := c }
       else s.begin)) ∧
    (s.curOp = 0x4#4 → step s = .next
      (if s.tRef ≤ s.tc then
         { s.begin with busy := false, answer := some ⟨.client, .done 0x00#8⟩, client := c }
       else s.begin)) ∧
    (s.curOp = 0x7#4 → step s = .next
      (let z := s.sawZero || s.sh == 0x00#8
       if s.sh &&& s.opB = s.opA then
         { s.begin with sawZero := z, busy := false, client := c,
                        answer := some ⟨.client, .done (if z then 0x01#8 else 0x00#8)⟩ }
       else { s.begin with sawZero := z }))

/-! ### The controller (42_power_and_system.md) -/

/-- R131, R132, R133: C_STOP, C_LEDOFF and C_SLEEP, each in one foreground step, whoever drives the client
port. (`a` is the answer the controller is given, of which the port shows none: log 10. C_SLEEP's writes look
at no precondition: log 21. The pulses end: log 11.) -/
def Obligations.GoToSleepTransitions : Prop :=
  ∀ (s : State) (d : Drive) (es : List Turn), s.turns = .fg d :: es →
    s.powerState = .active → s.busy = false → s.isr = false →
    (s.seq = .cStop → ∃ a, step s = .next
      { s.begin with clkRun := false, tickPend := false, seq := .cLedoff, answer := a }) ∧
    (s.seq = .cLedoff → ∃ a, step s = .next { s.begin with led := 0x7FF#11, seq := .cSleep, answer := a }) ∧
    (s.seq = .cSleep → step s = .next
      { s.begin with wakeEn := true, powerState := .sleeping, seq := .cAsleep }) ∧
    (s.seq ≠ .cFun → ∀ t, step s = .next t → t.response = none ∧ t.outputs.rspValid = false)

/-- R141, R134, R135: C_ASLEEP after the wake, C_RESEED and C_START, each in one foreground step. (`a` is the
answer the controller is given, of which the port shows none: log 10. The pulses end: log 11.) -/
def Obligations.WakeUpTransitions : Prop :=
  ∀ (s : State) (d : Drive) (es : List Turn), s.turns = .fg d :: es →
    s.powerState = .active → s.busy = false → s.isr = false →
    (s.seq = .cAsleep → step s = .next { s.begin with seq := .cReseed }) ∧
    (s.seq = .cReseed → ∃ a, step s = .next
      { s.begin with sh := 0xE0#8, seq := .cStart, answer := a }) ∧
    (s.seq = .cStart → ∃ a, step s = .next
      { s.begin with clkRun := true, tc := 0, tickPend := false, presc := 0, seq := .cSettleA,
                     answer := a }) ∧
    (s.seq ≠ .cFun → ∀ t, step s = .next t → t.response = none ∧ t.outputs.rspValid = false)

/-- R136, R137, R138: a settling state enters its wait and stays where it is. (The pulses end: log 11.) -/
def Obligations.SettlingStatesEnterTheirWaits : Prop :=
  ∀ (s : State) (d : Drive) (es : List Turn), s.turns = .fg d :: es →
    s.powerState = .active → s.busy = false → s.isr = false →
    (s.seq = .cSettleA → step s = .next
      { s.begin with sawZero := false, opA := 0x1F#8, opB := 0x1F#8, curOp := 0x7#4, busy := true }) ∧
    (s.seq = .cSettleB → step s = .next
      { s.begin with sawZero := false, opA := 0x00#8, opB := 0x07#8, curOp := 0x7#4, busy := true }) ∧
    (s.seq = .cSettleC → step s = .next
      { s.begin with sawZero := false, opA := 0x07#8, opB := 0x07#8, curOp := 0x7#4, busy := true })

/-- R136, R137, R138, R130, R103: a poll of a settling wait, seen or not. The completing poll advances `seq`; (a)
and (b) discard their result, (c) writes it to `long`. A poll that finds no match updates `saw_zero` by its
snapshot and changes nothing else, `busy` and `seq` least of all. (`a` is the answer the controller is given,
of which the port shows none: log 10. The pulses end: log 11.) -/
def Obligations.SettlingWaitCompletionAdvances : Prop :=
  ∀ (s : State) (d : Drive) (es : List Turn), s.turns = .fg d :: es →
    s.powerState = .active → s.busy = true → s.isr = false → s.curOp = 0x7#4 →
    let z := s.sawZero || s.sh == 0x00#8
    (s.sh &&& s.opB = s.opA →
      (s.seq = .cSettleA → ∃ a, step s = .next
        { s.begin with sawZero := z, busy := false, seq := .cSettleB, answer := a }) ∧
      (s.seq = .cSettleB → ∃ a, step s = .next
        { s.begin with sawZero := z, busy := false, seq := .cSettleC, answer := a }) ∧
      (s.seq = .cSettleC → ∃ a, step s = .next
        { s.begin with sawZero := z, busy := false, long := z, seq := .cDispatch, answer := a })) ∧
    (s.sh &&& s.opB ≠ s.opA → step s = .next { s.begin with sawZero := z }) ∧
    (s.seq ≠ .cFun → ∀ t, step s = .next t → t.response = none ∧ t.outputs.rspValid = false)

/-- R139: C_DISPATCH emits `Press(long)` and chooses by `long`. (The reference client starts RUN_ALL in the same
step: log 20. The last step's pulses end: log 11.) -/
def Obligations.DispatchEmitsThePressAndChooses : Prop :=
  ∀ (s : State) (d : Drive) (es : List Turn), s.turns = .fg d :: es →
    s.powerState = .active → s.busy = false → s.isr = false → s.seq = .cDispatch →
    (s.long = false → step s = .next { s.begin with evValid := true, seq := .cStop }) ∧
    (s.long = true → step s = .next
      { s.begin with evValid := true, seq := .cFun, client := ⟨.waitIdleIn, 0, 0⟩ }) ∧
    (∀ t, step s = .next t → t.outputs.evValid = true ∧ t.outputs.evLong = s.long)

/-- R140, I17, I18: with `fun_done = 1` the hand-back is taken, whatever word is offered, and the word is not;
with neither, no foreground step is enabled and the turn changes nothing but the pulses. (The client's place on
hand-back is the model's reading: log 20; so are that a turn with no enabled step is a stutter, log 14, and
that it ends the pulses, log 11.) -/
def Obligations.HandBackWinsOverAnOfferedWord : Prop :=
  ∀ (s : State) (p : Port) (es : List Turn), s.turns = .fg (.ports p) :: es →
    s.powerState = .active → s.busy = false → s.seq = .cFun →
    (p.funDone = true → ∃ c, step s = .next { s.begin with seq := .cStop, client := c }) ∧
    (p.funDone = false → p.cmdValid = false → step s = .next s.begin)

/-- R133: the fused step is ARM_WAKE, then SLEEP, then `seq <- C_ASLEEP`, with no step between; `a` stands for
the answers on the way. -/
def Obligations.FusedSleepIsArmWakeThenSleep : Prop :=
  ∀ s : State, s.issuer = .ctrl → s.clkRun = false →
    ∃ u v, exec .armWake s = .next u ∧ exec .sleep u = .next v ∧
      { v with seq := .cAsleep, answer := s.answer } = armAndSleep s

/-! ### Turns of the other agents -/

/-- R42, R171, R170: a pin change; a fall from 1 to 0 while armed is the wake interrupt, nothing else is an event.
(`p` is the edge detector's copy of the pin: 10_state.md R23, log 12. That a pin change ends the pulses of the
step before is the model's reading: log 11.) -/
def Obligations.PinChangeAndWakeInterrupt : Prop :=
  ∀ (s : State) (b : Bool) (es : List Turn), s.turns = .pin b :: es →
    (s.btnRaw = true ∧ b = false ∧ s.wakeEn = true → ∃ p, step s = .next
      { s.begin with btnRaw := b, btnPrev := p, wakeEn := false, powerState := .active }) ∧
    (¬(s.btnRaw = true ∧ b = false ∧ s.wakeEn = true) → ∃ p, step s = .next
      { s.begin with btnRaw := b, btnPrev := p })

/-- R43, R168: a tick is serviced, deferred, or does not exist. (A turn of the timer with the clock stopped
changes nothing: log 14. The prescaler is the realisation's: log 13. That a tick ends the pulses of the step
before is the model's reading: log 11.) -/
def Obligations.TickServicedDeferredOrDisabled : Prop :=
  ∀ (s : State) (es : List Turn), s.turns = .tick :: es →
    (s.clkRun = true → s.tie = true → step s = .next
      { s.begin with sh := s.sh.extractLsb' 0 7 ++ BitVec.ofBool s.btnRaw,
                     tc := (s.tc + 1) % 2 ^ s.params.tickW, tickPend := false }) ∧
    (s.clkRun = true → s.tie = false → step s = .next { s.begin with tickPend := true }) ∧
    (s.clkRun = false → step s = .next s.begin)

/-- R190: reset, in any state, in the step model and at a clock edge with `rst = 1`. (What the pin does in it:
log 27.) -/
def Obligations.ResetFromAnyState : Prop :=
  ∀ (s : State) (e : Turn) (es : List Turn), s.turns = e :: es → e.resets = true →
    ∃ t, step s = .next t ∧ t.powerState = .sleeping ∧ t.seq = .cAsleep ∧ t.wakeEn = true ∧
      t.clkRun = false ∧ t.tie = true ∧ t.tickPend = false ∧ t.led = 0x7FF#11 ∧ t.sawZero = false ∧
      t.long = false ∧ t.busy = false ∧ t.presc = 0 ∧ t.btnPrev = t.btnRaw ∧
      t.outputs.rspValid = false ∧ t.outputs.evValid = false ∧
      (∀ rst b d, e = .cycle rst b d → t.btnRaw = b) ∧ (e = .reset → t.btnRaw = s.btnRaw)

/-- R35: the values the spec gives the state after reset, and the client's at each activation. (The values the
model names, logs 4 and 6, are not in it.) -/
def Obligations.ResetStateHoldsTheGivenValues : Prop :=
  State.reset.powerState = .sleeping ∧ State.reset.powerState.code = 0#1 ∧
  State.reset.seq = .cAsleep ∧ State.reset.seq.code = 3#4 ∧
  State.reset.wakeEn = true ∧ State.reset.clkRun = false ∧ State.reset.tie = true ∧
  State.reset.tickPend = false ∧ State.reset.led = 0x7FF#11 ∧ State.reset.sawZero = false ∧
  State.reset.long = false ∧ State.reset.busy = false ∧ State.reset.presc = 0 ∧
  State.reset.btnPrev = State.reset.btnRaw ∧ State.reset.outputs.rspValid = false ∧
  State.reset.outputs.evValid = false ∧ Client.start.patIdx = 0 ∧ Client.start.phase = 0

/-- R44: asleep, no foreground step is enabled. (That the turn is then a stutter which ends the pulses is the
model's reading: logs 14, 11.) -/
def Obligations.SleepingForegroundIsHalted : Prop :=
  ∀ (s : State) (d : Drive) (es : List Turn), s.turns = .fg d :: es → s.powerState = .sleeping →
    step s = .next s.begin

/-- R32, R31, R151, R166, R68: the outputs are functions of the state. The response group is read from the
model's field `answer` (log 10): an answer to the client shows, with data 0 and its code if it is a refusal;
an answer to another issuer, or none, raises no `rsp_valid`. -/
def Obligations.OutputsAreFunctionsOfTheState : Prop :=
  ∀ s : State,
    (s.outputs.sleeping = true ↔ s.powerState = .sleeping) ∧
    (s.outputs.funActive = true ↔ s.seq = .cFun) ∧
    (s.outputs.cmdReady = true ↔ s.seq = .cFun ∧ s.busy = false) ∧
    (s.outputs.stPressed = true ↔ s.sh = 0x00#8) ∧ (s.outputs.stReleased = true ↔ s.sh = 0xFF#8) ∧
    ¬(s.outputs.stPressed = true ∧ s.outputs.stReleased = true) ∧
    s.outputs.led = s.led ∧ s.outputs.evValid = s.evValid ∧ s.outputs.evLong = s.long ∧
    (∀ v, s.answer = some ⟨.client, .done v⟩ → s.outputs.rspValid = true ∧ s.outputs.rspErr = false ∧
      s.outputs.rspData = v ∧ s.outputs.rspCode = 0#2) ∧
    (∀ c, s.answer = some ⟨.client, .refuse c⟩ → s.outputs.rspValid = true ∧ s.outputs.rspErr = true ∧
      s.outputs.rspData = 0x00#8 ∧ s.outputs.rspCode = c.code) ∧
    (∀ x r, x ≠ .client → s.answer = some ⟨x, r⟩ → s.outputs.rspValid = false) ∧
    (s.answer = none → s.outputs.rspValid = false)

/-! ### The whole machine -/

/-- R165: nothing traps, faults or aborts: every operation in every state, and every step, answers a next
state. -/
def Obligations.NothingEverStopsTheMachine : Prop :=
  (∀ (i : Instr) (s : State), ∃ t, exec i s = .next t) ∧ ∀ s : State, ∃ t, step s = .next t

/-- The invariant of the fixed controller holds after reset, for every allowed choice of the open parameters and
every schedule of hardware turns. (It also speaks of the registers whose reset value is the model's choice,
`TC` and `t_ref`, log 4, of the pin, log 6, and of the client, log 20, and, as the invariant does, of what
logs 7, 8, 12, 17, 18 and 31 add.) -/
def Obligations.InvariantHoldsAtReset : Prop :=
  ∀ (p : Params) (ts : List Turn), p.wellFormed = true → (∀ e ∈ ts, e.hardware = true) →
    Inv { State.reset with params := p, turns := ts }

/-- The invariant of the fixed controller is kept by every step. Beside the rules its clauses cite (Safety.lean,
`Inv`), it rests on the model's choices where a clause speaks of what the model added: the open parameters as
data (log 7), `TC`, `t_ref` and `presc` as numbers (log 8), the edge detector that has seen the pin (log 12), the
handler's flag (log 17), the word turn, which the schedule leaves out (log 18), the reference client, idle
outside C_FUN (log 20), and its numbers (log 31). -/
def Obligations.EveryStepKeepsTheInvariant : Prop :=
  ∀ s t : State, Inv s → step s = .next t → Inv t

/-- R25: in every state the controller's sequence reaches, the two interrupts are not both enabled. -/
def Obligations.InterruptsAreNeverBothEnabled : Prop :=
  ∀ (p : Params) (ts : List Turn) (n : Nat) (t : State), p.wellFormed = true →
    (∀ e ∈ ts, e.hardware = true) → run n { State.reset with params := p, turns := ts } = .next t →
    ¬(t.wakeEn = true ∧ t.clkRun = true)

/-- R180: what the client's operations cannot change, and what only some of them can. -/
def Obligations.ClientWritesOnlyWhatItMay : Prop :=
  ∀ (i : Instr) (s t : State), s.issuer = .client → exec i s = .next t →
    t.powerState = s.powerState ∧ t.wakeEn = s.wakeEn ∧ t.seq = s.seq ∧ t.long = s.long ∧
    (i ≠ .tickUnmask → t.sh = s.sh ∧ (t.tc = s.tc ∨ i = .clkStart ∧ t.tc = 0)) ∧
    (t.clkRun ≠ s.clkRun → i = .clkStart ∨ i = .clkStop) ∧
    (t.tie ≠ s.tie → i = .tickMask ∨ i = .tickUnmask) ∧
    (t.led ≠ s.led → i = .ledsOff ∨ ∃ m, i = .ledSet m)

/-- R24, R10, R11: a foreground step writes `SH` only by RESET, and `TC` only by CLK_START, or either by the
deferred service inside TICK_UNMASK; a pin change writes neither. -/
def Obligations.ForegroundWritesHistoryOnlyByReset : Prop :=
  (∀ (s t : State) (d : Drive) (es : List Turn), s.turns = .fg d :: es → s.isr = false →
    step s = .next t →
    let i := (fgMove (d.port s.begin) s.begin).issues
    i ≠ some .tickUnmask →
      ((∀ seed, i ≠ some (.reset seed)) → t.sh = s.sh) ∧ (i ≠ some .clkStart → t.tc = s.tc)) ∧
  (∀ (s t : State) (b : Bool) (es : List Turn), s.turns = .pin b :: es → step s = .next t →
    t.sh = s.sh ∧ t.tc = s.tc)

/-- R12, R185, R186: only an armed wake edge ends the sleep, and it disarms; only the C_SLEEP step, a reset, or a
SLEEP word (log 18) begins it. -/
def Obligations.PowerStateChangesOnlyByItsTriggers : Prop :=
  ∀ s t : State, step s = .next t →
    (s.powerState = .sleeping → t.powerState = .active →
      s.wakeEn = true ∧ t.wakeEn = false ∧
      ((s.nextTurn = .pin false ∧ s.btnRaw = true) ∨
       ∃ d, s.nextTurn = .cycle false false d ∧ s.btnPrev = true)) ∧
    (s.powerState = .active → t.powerState = .sleeping →
      s.nextTurn.resets = true ∨
      (∃ d, (s.nextTurn = .fg d ∨ ∃ b, s.nextTurn = .cycle false b d) ∧
        fgMove (d.port s.begin) s.begin = .armAndSleep) ∨
      (∃ x w, s.nextTurn = .word x w ∧ decode w = .ok .sleep))

/-- R151, I18, R21: while an operation is in progress nothing offered on the port is taken or remembered. -/
def Obligations.BusyForegroundIgnoresThePort : Prop :=
  ∀ (s : State) (p q : Port) (es : List Turn), s.busy = true →
    step { s with turns := .fg (.ports p) :: es } = step { s with turns := .fg (.ports q) :: es }

/-- R152, R22: the block never sees the reference client's state: with another client on the port, a step from
two states that differ only in the reference client leads to two such states. -/
def Obligations.BlockNeverSeesTheClientsState : Prop :=
  ∀ (s t : State) (c : Client), s.nextTurn.otherClient = true → step s = .next t →
    ∃ c', step { s with client := c } = .next { t with client := c' }

/-- R174: the two handlers write disjoint state, and either order gives the same state. -/
def Obligations.InterruptHandlersCommute : Prop :=
  ∀ s : State, tickHandler (wakeHandler s) = wakeHandler (tickHandler s)

/-! ### Laws of the history, the counter and the waits -/

/-- R105: the run law of SAMPLE, and its worked example (the spec marks the exact form as derived from R100). -/
def Obligations.SampleRunLaw : Prop :=
  (∀ (h : Hist) (b : Bool) (n : Nat), n ≤ 8 → ∀ i, i < 8 →
    ((shiftIn · b)^[n] h).getLsbD i = if i < n then b else h.getLsbD (i - n)) ∧
  (∀ (h : Hist) (b : Bool) (n : Nat), 8 ≤ n → (shiftIn · b)^[n] h = if b then 0xFF#8 else 0x00#8) ∧
  (List.range 9).map (fun n => (shiftIn · false)^[n + 1] 0xA5#8) =
    [0x4A#8, 0x94#8, 0x28#8, 0x50#8, 0xA0#8, 0x40#8, 0x80#8, 0x00#8, 0x00#8] ∧
  (List.range 9).map (fun n => (shiftIn · true)^[n + 1] 0xA5#8) =
    [0x4B#8, 0x97#8, 0x2F#8, 0x5F#8, 0xBF#8, 0x7F#8, 0xFF#8, 0xFF#8, 0xFF#8]

/-- R48, R81: `n` ticks serviced with the pin still: `n` samples and `n` counts, modulo `2^TICK_W`. -/
def Obligations.ServicedTicksCountAndSampleTogether : Prop :=
  ∀ (s : State) (n : Nat) (es : List Turn), s.clkRun = true → s.tie = true →
    s.tc < 2 ^ s.params.tickW → s.turns = List.replicate n .tick ++ es →
    ∃ t, run n s = .next t ∧ t.tc = (s.tc + n) % 2 ^ s.params.tickW ∧
      t.sh = (shiftIn · s.btnRaw)^[n] s.sh ∧ t.turns = es

/-- R49, R124: inside a critical section every step sees the same `SH` and the same `TC`. -/
def Obligations.CriticalSectionFreezesHistoryAndCounter : Prop :=
  ∀ (s t : State) (n : Nat), s.tie = false → s.seq = .cFun → s.powerState = .active → s.isr = false →
    (∀ e ∈ s.turns, e.inSection = true) → run n s = .next t →
    t.sh = s.sh ∧ t.tc = s.tc ∧ t.tie = false

/-- R85, R201: a DELAY polled before any tick is serviced ends at that poll iff `n = 0` or its target wraps;
otherwise its target is `TC + n` and it is still waiting. The target as arithmetic, the entry step that latches
it, and the poll. -/
def Obligations.DelayIsTooShortExactlyWhenItWraps : Prop :=
  ∀ (s : State) (n : BitVec 8), s.params.wellFormed = true → s.tc < 2 ^ s.params.tickW →
    (delayTarget s.params s.tc n ≤ s.tc ↔ n = 0#8 ∨ 2 ^ s.params.tickW ≤ s.tc + n.toNat) ∧
    (s.tc + n.toNat < 2 ^ s.params.tickW → delayTarget s.params s.tc n = s.tc + n.toNat) ∧
    ∀ (d : Drive) (es : List Turn), s.turns = offerFg (.delay n) :: .fg d :: es →
      s.powerState = .active → s.seq = .cFun → s.busy = false → s.isr = false →
      ∃ t u, run 1 s = .next t ∧ t.busy = true ∧ t.tRef = delayTarget s.params s.tc n ∧
        run 2 s = .next u ∧ (u.busy = false ↔ n = 0#8 ∨ 2 ^ s.params.tickW ≤ s.tc + n.toNat) ∧
        (u.busy = false → u.response = some (.done 0x00#8)) ∧ (u.busy = true → u.response = none)

/-- R86: `CLK_START`, at most one tick, `DELAY n`, and exactly one poll per tick from then on, where the target
does not wrap (`n` plus the ticks before is below `2^TICK_W`): the DELAY completes after exactly `n` more ticks,
`n` or `n + 1` counted from the clock reset, and not before (the spec marks the exact count as derived from
R85). -/
def Obligations.DelayAfterAClockResetTakesItsTicks : Prop :=
  ∀ (s : State) (n : BitVec 8) (bs₀ bs : List Bool) (es : List Turn),
    s.powerState = .active → s.seq = .cFun → s.busy = false → s.isr = false → s.tie = true →
    s.wakeEn = false → s.params.wellFormed = true → bs₀.length ≤ 1 → bs.length = n.toNat →
    n.toNat + bs₀.length < 2 ^ s.params.tickW →
    s.turns = offerFg .clkStart :: bs₀.flatMap lineT ++
      (offerFg (.delay n) :: quietFg :: denseTurns bs) ++ es →
    (∃ t, run (3 + 2 * bs₀.length + 3 * n.toNat) s = .next t ∧ t.busy = false ∧
      t.response = some (.done 0x00#8) ∧ t.tc = n.toNat + bs₀.length) ∧
    ∀ k, k < n.toNat → ∃ u, run (3 + 2 * bs₀.length + 3 * k) s = .next u ∧ u.busy = true

/-- R107: `WaitResult` is the least `K` whose history has the pattern, and 1 iff some history up to it was
`0x00` (the spec marks the rule as derived from R103 and R100). -/
def Obligations.WaitResultIsTheLeastMatch : Prop :=
  ∀ (h expected mask : Hist) (bs : List Bool) (k : Nat) (z : Bool),
    waitResult h expected mask bs = some (k, z) ↔
      k ≤ bs.length ∧ historyAfter h bs k &&& mask = expected ∧
      (∀ j, j < k → historyAfter h bs j &&& mask ≠ expected) ∧
      (z = true ↔ ∃ j, j ≤ k ∧ historyAfter h bs j = 0x00#8)

/-- R107, R103, R136 to R138: under one poll per tick a WAIT_PATTERN, the client's or a settling state's,
completes after `K` ticks with the result `WaitResult` gives, not before, and is still waiting where
`WaitResult` gives none. The client's result is its response; the settling waits advance `seq`, and step (c)'s
result is `long`. (The spec marks R107 as derived. That a controller's wait raises no response is the model's
choice: log 10. That every turn ends the pulses of the step before is its reading: log 11.) -/
def Obligations.WaitPatternReturnsWaitResult : Prop :=
  ∀ (s : State) (bs : List Bool) (es : List Turn), s.powerState = .active → s.busy = true →
    s.curOp = 0x7#4 → s.sawZero = false → s.isr = false → s.clkRun = true → s.tie = true →
    s.tc < 2 ^ s.params.tickW → s.turns = quietFg :: denseTurns bs ++ es →
    (∀ k z, waitResult s.sh s.opA s.opB bs = some (k, z) →
      (∃ t, run (1 + 3 * k) s = .next t ∧ t.busy = false ∧ t.sawZero = z ∧
        t.tc = (s.tc + k) % 2 ^ s.params.tickW ∧
        (s.seq = .cFun → t.seq = .cFun ∧ t.long = s.long ∧
          t.response = some (.done (if z then 0x01#8 else 0x00#8))) ∧
        (s.seq = .cSettleA → t.seq = .cSettleB ∧ t.long = s.long ∧ t.response = none) ∧
        (s.seq = .cSettleB → t.seq = .cSettleC ∧ t.long = s.long ∧ t.response = none) ∧
        (s.seq = .cSettleC → t.seq = .cDispatch ∧ t.long = z ∧ t.response = none)) ∧
      ∀ j, j < k → ∃ u, run (1 + 3 * j) s = .next u ∧ u.busy = true ∧ u.seq = s.seq ∧
        u.long = s.long ∧ u.response = none) ∧
    (waitResult s.sh s.opA s.opB bs = none →
      ∃ t, run (1 + 3 * bs.length) s = .next t ∧ t.busy = true ∧ t.seq = s.seq ∧ t.long = s.long ∧
        t.response = none)

/-- R138, R206: from the entry of settling step (c), with the last three samples pressed and the one before
released, `k` more pressed samples and then three released ones, one poll per tick: the block is in C_SETTLE_C
through the first `k + 2` ticks and at C_DISPATCH after `k + 3`, and `long` is then 1 iff the press had 8
samples or more, the three of step (b) among its `k + 3`. (The spec marks it as derived from R107.) -/
def Obligations.CleanPressIsLongFromEightSamples : Prop :=
  ∀ (s : State) (k : Nat) (es : List Turn), s.powerState = .active → s.seq = .cSettleC →
    s.busy = false → s.isr = false → s.clkRun = true → s.tie = true → s.sh &&& 0x0F#8 = 0x08#8 →
    s.turns = quietFg :: quietFg :: denseTurns (List.replicate k false ++ [true, true, true]) ++ es →
    (∀ j, j < k + 3 → ∃ u, run (2 + 3 * j) s = .next u ∧ u.seq = .cSettleC ∧ u.busy = true ∧
      u.long = s.long) ∧
    ∃ t, run (2 + 3 * (k + 3)) s = .next t ∧ t.seq = .cDispatch ∧ t.busy = false ∧
      t.long = decide (8 ≤ k + 3)

/-- R134 to R136: from C_RESEED, through the reseed, the clock start (and at most one tick before the wait is
entered) and the entry of settling step (a), with one poll per tick: whatever the samples, the block is in
C_SETTLE_A with its wait in progress until five ticks have passed since the clock start; if those five samples
are released ones, the poll after the fifth leaves step (a). (The spec marks it as derived from R107.) -/
def Obligations.SettlingStepAWaitsForFiveSamples : Prop :=
  ∀ (s : State) (bs₀ bs : List Bool) (es : List Turn), s.powerState = .active → s.seq = .cReseed →
    s.busy = false → s.isr = false → s.tie = true → s.params.wellFormed = true → bs₀.length ≤ 1 →
    s.turns = quietFg :: quietFg :: bs₀.flatMap lineT ++
      (quietFg :: quietFg :: denseTurns bs) ++ es →
    (∀ j, j ≤ bs.length → bs₀.length + j < 5 → ∃ u, run (4 + 2 * bs₀.length + 3 * j) s = .next u ∧
      u.seq = .cSettleA ∧ u.busy = true ∧ u.tc = bs₀.length + j) ∧
    (bs₀.length + bs.length = 5 → (∀ b ∈ bs₀ ++ bs, b = true) →
      ∃ t, run (4 + 2 * bs₀.length + 3 * bs.length) s = .next t ∧ t.seq = .cSettleB ∧
        t.busy = false ∧ t.tc = 5)

/-- R88: a WAIT_TICK, or a DELAY short of its target, on a stopped or masked clock goes on for ever, with no
response, whatever the agents do, short of a reset; its poll steps change nothing. (That every turn ends the
pulses of the step before is the model's reading: log 11.) -/
def Obligations.WaitOnAStoppedClockNeverEnds : Prop :=
  ∀ s t : State, ClockStall s → step s = .next t →
    ClockStall t ∧ t.response = none ∧ t.busy = true ∧ t.outputs.cmdReady = false ∧
    t.outputs.rspValid = false ∧ (∀ d es, s.turns = .fg d :: es → t = s.begin)

/-- R208, R109: a WAIT_PATTERN on an unsatisfiable pattern goes on for ever, with no response, whatever the
agents do, short of a reset (the spec marks R208 as derived from R102; that every turn ends the pulses of the step
before is the model's reading: log 11). -/
def Obligations.UnsatisfiablePatternNeverEnds : Prop :=
  ∀ s t : State, PatternStall s → step s = .next t → PatternStall t ∧ t.response = none

/-- R203, I10: with ARM_WAKE and SLEEP as two words (log 18) and a wake edge between them the block sleeps with no
wake source; asleep and disarmed it stays so, whatever the agents do, short of a reset. -/
def Obligations.SplitSleepCanLoseTheWakeUp : Prop :=
  (∀ (s : State) (es : List Turn), s.powerState = .active → s.busy = false → s.isr = false →
    s.seq ≠ .cFun → s.clkRun = false → s.btnRaw = true →
    s.turns = .word .ctrl 0x90000#20 :: .pin false :: .word .ctrl 0xA0000#20 :: es →
    (∀ e ∈ es, e.resets = false) → ∃ t, run 3 s = .next t ∧ LostWakeUp t) ∧
  (∀ s t : State, LostWakeUp s → step s = .next t → LostWakeUp t)

/-! ### The synchronous realisation and the client -/

/-- R212: one clock edge is a pin step, then (if the block was awake) a foreground step, to a state `v`, then a
tick exactly if `clk_run = 1` in `v`, the foreground step executed no CLK_START, and the prescaler stands at
`TICK_DIV - 1`; it is serviced or, with `tie = 0`, pends. Without a tick the prescaler counts, but not in the
cycle of a CLK_START, which leaves it at 0, and not with `clk_run = 0`; with a tick it goes to 0. The pulses of
the cycle are the foreground step's. Nothing else differs. (The edge detector has seen the pin: log 12.) -/
def Obligations.ClockCycleIsAnInterleaving : Prop :=
  ∀ (s t : State) (b : Bool) (d : Drive) (es : List Turn), s.btnPrev = s.btnRaw → s.isr = false →
    s.turns = .cycle false b d :: es → step s = .next t →
    let ts := .pin b :: (if s.powerState = .active then [.fg d] else [])
    let starts := s.powerState = .active ∧ (fgMove (d.port s.begin) s.begin).issues = some .clkStart
    ∃ v, run ts.length { s with turns := ts ++ es } = .next v ∧
      (starts → v.presc = 0 ∧ t = v) ∧
      (v.clkRun = false → t = v) ∧
      (v.clkRun = true → ¬starts → v.presc + 1 ≠ s.params.tickDiv → t = { v with presc := v.presc + 1 }) ∧
      (v.clkRun = true → ¬starts → v.presc + 1 = s.params.tickDiv →
        ∃ u, run (ts.length + 1) { s with turns := ts ++ .tick :: es } = .next u ∧
          t = { u with presc := 0, answer := v.answer, evValid := v.evValid } ∧
          (v.tie = false → u.tickPend = true ∧ u.sh = v.sh ∧ u.tc = v.tc))

/-- R212: with the prescaler at 0, as a CLK_START leaves it, and the foreground waiting for the tick, no tick falls
in the first `TICK_DIV - 1` cycles and one in the `TICK_DIV`-th. -/
def Obligations.TickComesInTheLastOfTickDivCycles : Prop :=
  ∀ (s : State) (b : Bool) (d : Drive) (es : List Turn), s.powerState = .active → s.busy = true →
    s.curOp = 0x3#4 → s.tRef = s.tc → s.clkRun = true → s.tie = true → s.presc = 0 →
    s.params.wellFormed = true → s.turns = List.replicate s.params.tickDiv (.cycle false b d) ++ es →
    (∀ k, k < s.params.tickDiv → ∃ u, run k s = .next u ∧ u.tc = s.tc ∧ u.sh = s.sh ∧ u.presc = k ∧
      u.busy = true) ∧
    ∃ t, run s.params.tickDiv s = .next t ∧ t.tc = (s.tc + 1) % 2 ^ s.params.tickW ∧
      t.sh = shiftIn s.sh b ∧ t.presc = 0

/-- R154: after `PERIOD(p)` iterations the phase is back where it was; with period 1 it never changes
(the spec marks it as derived from R153). -/
def Obligations.PhaseReturnsAfterItsPeriod : Prop :=
  ∀ (p : Params) (idx phase : Nat), phase < period p idx →
    (nextPhase p idx)^[period p idx] phase = phase ∧
    (period p idx = 1 → nextPhase p idx phase = phase)

/-- R153, R155: the reference client, step by step: what it issues at each place, and where it goes when it is
answered (log 19); in the hand-back step it goes idle (log 20). The pulses of the step before end (log 11). -/
def Obligations.ReferenceClientRunsItsSequence : Prop :=
  (∀ (s : State) (es : List Turn), s.turns = .fg .engine :: es → s.powerState = .active →
    s.busy = false → s.seq = .cFun → s.isr = false →
    (s.client.pc = .waitIdleIn ∨ s.client.pc = .waitIdleOut → step s = .next
      { s.begin with sawZero := false, opA := 0xFF#8, opB := 0xFF#8, curOp := 0x7#4, busy := true }) ∧
    (s.client.pc = .align ∨ s.client.pc = .pace → step s = .next
      { s.begin with tRef := s.tc, curOp := 0x3#4, busy := true }) ∧
    (s.client.pc = .draw → step s = .next
      { s.begin with
        led := frame s.params s.client.patIdx s.client.phase
        answer := some ⟨.client, .done 0x00#8⟩
        client := ⟨.pace, s.client.patIdx,
          (s.client.phase + 1) % period s.params s.client.patIdx⟩ }) ∧
    (s.client.pc = .test → step s = .next
      (if s.sh &&& s.params.tapMask = s.params.tapExp then
        { s.begin with answer := some ⟨.client, .done 0x01#8⟩
                       client := { s.client with pc := .waitIdleOut } }
       else { s.begin with answer := some ⟨.client, .done 0x00#8⟩
                           client := { s.client with pc := .draw } })) ∧
    (s.client.pc = .finished → step s = .next
      { s.begin with seq := .cStop, client := { s.client with pc := .idle } })) ∧
  (∀ (s t : State) (es : List Turn), s.turns = .fg .engine :: es → s.powerState = .active →
    s.busy = true → s.seq = .cFun → s.isr = false → step s = .next t → t.busy = false →
    (s.client.pc = .waitIdleIn → t.client = { s.client with pc := .align }) ∧
    (s.client.pc = .align → t.client = { s.client with pc := .draw, phase := 0 }) ∧
    (s.client.pc = .pace → t.client = { s.client with pc := .test }) ∧
    (s.client.pc = .waitIdleOut → s.client.patIdx + 1 < npat s.params →
      t.client = ⟨.waitIdleIn, s.client.patIdx + 1, 0⟩) ∧
    (s.client.pc = .waitIdleOut → ¬ s.client.patIdx + 1 < npat s.params →
      t.client = { s.client with pc := .finished }))

/-! ### A pattern wait on a stopped clock -/

/-- R83 (d), R103 (c), R202: a WAIT_PATTERN whose pattern the history does not have, on a stopped or masked clock,
goes on for ever, with no response and the history as it is, whatever the agents of the hardware do (log 18),
short of a reset; a poll takes its snapshot's zero test into `saw_zero` and changes nothing else. (That every
turn ends the pulses of the step before is the model's reading: log 11.) -/
def Obligations.PatternWaitOnAStoppedClockNeverEnds : Prop :=
  ∀ s t : State, PatternClockStall s → step s = .next t →
    PatternClockStall t ∧ t.sh = s.sh ∧ t.response = none ∧ t.outputs.cmdReady = false ∧
    t.outputs.rspValid = false ∧
    (∀ d es, s.turns = .fg d :: es → t = { s.begin with sawZero := s.sawZero || s.sh == 0x00#8 })
end

