-- ==== Sys2Proof/Laws/Encoding.lean ====
section
/-! SUPPORT. The fields of a packed word, and a word put together from its fields (30_encoding.md R60 to
R62). -/

namespace Sys2Proof

theorem opField_pack (op : Opcode) (a b : BitVec 8) : opField (pack op a b) = op := by
  unfold opField pack
  apply BitVec.eq_of_getLsbD_eq
  intro i hi
  simp only [BitVec.getLsbD_extractLsb', BitVec.getLsbD_append]
  have h1 : ¬ (16 + i < 8) := by omega
  have h2 : ¬ (16 + i - 8 < 8) := by omega
  simp [h1, h2, hi, show 16 + i - 8 - 8 = i by omega]

theorem aField_pack (op : Opcode) (a b : BitVec 8) : aField (pack op a b) = a := by
  unfold aField pack
  apply BitVec.eq_of_getLsbD_eq
  intro i hi
  simp only [BitVec.getLsbD_extractLsb', BitVec.getLsbD_append]
  have h1 : ¬ (8 + i < 8) := by omega
  simp [h1, hi]

theorem bField_pack (op : Opcode) (a b : BitVec 8) : bField (pack op a b) = b := by
  unfold bField pack
  apply BitVec.eq_of_getLsbD_eq
  intro i hi
  simp only [BitVec.getLsbD_extractLsb', BitVec.getLsbD_append]
  simp [hi]

theorem opField_packL (m : LedMask) : opField (packL m) = 0xC#4 := by
  unfold opField packL
  apply BitVec.eq_of_getLsbD_eq
  intro i hi
  simp only [BitVec.getLsbD_extractLsb', BitVec.getLsbD_append]
  have h1 : ¬ (16 + i < 11) := by omega
  have h2 : ¬ (16 + i - 11 < 5) := by omega
  simp [h1, h2, hi, show 16 + i - 11 - 5 = i by omega]

theorem spareField_packL (m : LedMask) : spareField (packL m) = 0#5 := by
  unfold spareField packL
  apply BitVec.eq_of_getLsbD_eq
  intro i hi
  simp only [BitVec.getLsbD_extractLsb', BitVec.getLsbD_append]
  have h1 : ¬ (11 + i < 11) := by omega
  simp [h1, hi]

theorem mField_packL (m : LedMask) : mField (packL m) = m := by
  unfold mField packL
  apply BitVec.eq_of_getLsbD_eq
  intro i hi
  simp only [BitVec.getLsbD_extractLsb', BitVec.getLsbD_append]
  simp [hi]

/-- A word is the packing of its three fields (R60). -/
theorem pack_fields (w : OpWord) : pack (opField w) (aField w) (bField w) = w := by
  unfold pack opField aField bField
  apply BitVec.eq_of_getLsbD_eq
  intro i hi
  simp only [BitVec.getLsbD_extractLsb', BitVec.getLsbD_append]
  by_cases h1 : i < 8
  · simp [h1]
  · by_cases h2 : i - 8 < 8
    · simp [h1, h2, show 8 + (i - 8) = i by omega]
    · simp [h1, h2, show 16 + (i - 8 - 8) = i by omega, show i - 8 - 8 < 4 by omega]

/-- A word of format `L` is the packing of its mask (R61). -/
theorem packL_fields (w : OpWord) (h : opField w = 0xC#4) (h' : spareField w = 0#5) :
    packL (mField w) = w := by
  have : packL (mField w) = opField w ++ spareField w ++ mField w := by rw [h, h']; rfl
  rw [this]
  unfold opField spareField mField
  apply BitVec.eq_of_getLsbD_eq
  intro i hi
  simp only [BitVec.getLsbD_extractLsb', BitVec.getLsbD_append]
  by_cases h1 : i < 11
  · simp [h1]
  · by_cases h2 : i - 11 < 5
    · simp [h1, h2, show 11 + (i - 11) = i by omega]
    · simp [h1, h2, show 16 + (i - 11 - 5) = i by omega, show i - 11 - 5 < 4 by omega]

/-- Masking a packed word masks its fields. -/
theorem pack_and (o o' : Opcode) (a a' b b' : BitVec 8) :
    pack o a b &&& pack o' a' b' = pack (o &&& o') (a &&& a') (b &&& b') := by
  unfold pack
  apply BitVec.eq_of_getLsbD_eq
  intro i hi
  simp only [BitVec.getLsbD_and, BitVec.getLsbD_append]
  split <;> try split
  all_goals rfl

/-- The mask of format `A1` keeps the opcode and `B` (R63). -/
theorem pack_and_maskA1 (op : Opcode) (a b : BitVec 8) : pack op a b &&& 0xF00FF#20 = pack op 0#8 b := by
  rw [show (0xF00FF#20 : OpWord) = pack (BitVec.allOnes 4) 0#8 (BitVec.allOnes 8) by decide, pack_and,
    BitVec.and_allOnes, BitVec.and_allOnes, BitVec.and_zero]

/-- The mask of format `AB` keeps the opcode (R63). -/
theorem pack_and_maskAB (op : Opcode) (a b : BitVec 8) : pack op a b &&& 0xF0000#20 = pack op 0#8 0#8 := by
  rw [show (0xF0000#20 : OpWord) = pack (BitVec.allOnes 4) 0#8 0#8 by decide, pack_and,
    BitVec.and_allOnes, BitVec.and_zero, BitVec.and_zero]

/-- The mask of format `L` keeps the opcode and the five spare bits (R63). -/
theorem packL_and_maskL (m : LedMask) : packL m &&& 0xFF800#20 = 0xC0000#20 := by
  rw [show (0xFF800#20 : OpWord) = 0xF#4 ++ 0x1F#5 ++ 0#11 by decide,
    show (0xC0000#20 : OpWord) = 0xC#4 ++ 0#5 ++ 0#11 by decide]
  unfold packL
  apply BitVec.eq_of_getLsbD_eq
  intro i hi
  simp only [BitVec.getLsbD_and, BitVec.getLsbD_append]
  split <;> try split
  · simp
  · simp
  · rw [← BitVec.getLsbD_and]; rfl

end Sys2Proof
end

