-- ==== Sys2Proof/Laws/State.lean ====
section
/-! SUPPORT. What each update of the state does to each field: one lemma per field, true by definition. -/

namespace Sys2Proof.Machine

/-! ### `clearPulses`: the pulses end (R31, R151) -/

@[simp] theorem clearPulses_params (s : State) : s.clearPulses.params = s.params := rfl
@[simp] theorem clearPulses_sh (s : State) : s.clearPulses.sh = s.sh := rfl
@[simp] theorem clearPulses_tc (s : State) : s.clearPulses.tc = s.tc := rfl
@[simp] theorem clearPulses_powerState (s : State) : s.clearPulses.powerState = s.powerState := rfl
@[simp] theorem clearPulses_clkRun (s : State) : s.clearPulses.clkRun = s.clkRun := rfl
@[simp] theorem clearPulses_tie (s : State) : s.clearPulses.tie = s.tie := rfl
@[simp] theorem clearPulses_tickPend (s : State) : s.clearPulses.tickPend = s.tickPend := rfl
@[simp] theorem clearPulses_wakeEn (s : State) : s.clearPulses.wakeEn = s.wakeEn := rfl
@[simp] theorem clearPulses_led (s : State) : s.clearPulses.led = s.led := rfl
@[simp] theorem clearPulses_sawZero (s : State) : s.clearPulses.sawZero = s.sawZero := rfl
@[simp] theorem clearPulses_long (s : State) : s.clearPulses.long = s.long := rfl
@[simp] theorem clearPulses_seq (s : State) : s.clearPulses.seq = s.seq := rfl
@[simp] theorem clearPulses_busy (s : State) : s.clearPulses.busy = s.busy := rfl
@[simp] theorem clearPulses_curOp (s : State) : s.clearPulses.curOp = s.curOp := rfl
@[simp] theorem clearPulses_opA (s : State) : s.clearPulses.opA = s.opA := rfl
@[simp] theorem clearPulses_opB (s : State) : s.clearPulses.opB = s.opB := rfl
@[simp] theorem clearPulses_tRef (s : State) : s.clearPulses.tRef = s.tRef := rfl
@[simp] theorem clearPulses_btnRaw (s : State) : s.clearPulses.btnRaw = s.btnRaw := rfl
@[simp] theorem clearPulses_btnPrev (s : State) : s.clearPulses.btnPrev = s.btnPrev := rfl
@[simp] theorem clearPulses_presc (s : State) : s.clearPulses.presc = s.presc := rfl
@[simp] theorem clearPulses_answer (s : State) : s.clearPulses.answer = none := rfl
@[simp] theorem clearPulses_evValid (s : State) : s.clearPulses.evValid = false := rfl
@[simp] theorem clearPulses_client (s : State) : s.clearPulses.client = s.client := rfl
@[simp] theorem clearPulses_isr (s : State) : s.clearPulses.isr = s.isr := rfl
@[simp] theorem clearPulses_draws (s : State) : s.clearPulses.draws = s.draws := rfl
@[simp] theorem clearPulses_turns (s : State) : s.clearPulses.turns = s.turns := rfl
@[simp] theorem clearPulses_issuer (s : State) : s.clearPulses.issuer = s.issuer := rfl

/-! ### `reply`: a result is returned (R68) -/

@[simp] theorem reply_params (s : State) (v : BitVec 8) : (s.reply v).params = s.params := rfl
@[simp] theorem reply_sh (s : State) (v : BitVec 8) : (s.reply v).sh = s.sh := rfl
@[simp] theorem reply_tc (s : State) (v : BitVec 8) : (s.reply v).tc = s.tc := rfl
@[simp] theorem reply_powerState (s : State) (v : BitVec 8) : (s.reply v).powerState = s.powerState := rfl
@[simp] theorem reply_clkRun (s : State) (v : BitVec 8) : (s.reply v).clkRun = s.clkRun := rfl
@[simp] theorem reply_tie (s : State) (v : BitVec 8) : (s.reply v).tie = s.tie := rfl
@[simp] theorem reply_tickPend (s : State) (v : BitVec 8) : (s.reply v).tickPend = s.tickPend := rfl
@[simp] theorem reply_wakeEn (s : State) (v : BitVec 8) : (s.reply v).wakeEn = s.wakeEn := rfl
@[simp] theorem reply_led (s : State) (v : BitVec 8) : (s.reply v).led = s.led := rfl
@[simp] theorem reply_sawZero (s : State) (v : BitVec 8) : (s.reply v).sawZero = s.sawZero := rfl
@[simp] theorem reply_long (s : State) (v : BitVec 8) : (s.reply v).long = s.long := rfl
@[simp] theorem reply_seq (s : State) (v : BitVec 8) : (s.reply v).seq = s.seq := rfl
@[simp] theorem reply_busy (s : State) (v : BitVec 8) : (s.reply v).busy = s.busy := rfl
@[simp] theorem reply_curOp (s : State) (v : BitVec 8) : (s.reply v).curOp = s.curOp := rfl
@[simp] theorem reply_opA (s : State) (v : BitVec 8) : (s.reply v).opA = s.opA := rfl
@[simp] theorem reply_opB (s : State) (v : BitVec 8) : (s.reply v).opB = s.opB := rfl
@[simp] theorem reply_tRef (s : State) (v : BitVec 8) : (s.reply v).tRef = s.tRef := rfl
@[simp] theorem reply_btnRaw (s : State) (v : BitVec 8) : (s.reply v).btnRaw = s.btnRaw := rfl
@[simp] theorem reply_btnPrev (s : State) (v : BitVec 8) : (s.reply v).btnPrev = s.btnPrev := rfl
@[simp] theorem reply_presc (s : State) (v : BitVec 8) : (s.reply v).presc = s.presc := rfl
@[simp] theorem reply_answer (s : State) (v : BitVec 8) : (s.reply v).answer = some ⟨s.issuer, .done v⟩ := rfl
@[simp] theorem reply_evValid (s : State) (v : BitVec 8) : (s.reply v).evValid = s.evValid := rfl
@[simp] theorem reply_client (s : State) (v : BitVec 8) : (s.reply v).client = s.client := rfl
@[simp] theorem reply_isr (s : State) (v : BitVec 8) : (s.reply v).isr = s.isr := rfl
@[simp] theorem reply_draws (s : State) (v : BitVec 8) : (s.reply v).draws = s.draws := rfl
@[simp] theorem reply_turns (s : State) (v : BitVec 8) : (s.reply v).turns = s.turns := rfl
@[simp] theorem reply_issuer (s : State) (v : BitVec 8) : (s.reply v).issuer = s.issuer := rfl

/-! ### `refuse`: a word is refused (R166) -/

@[simp] theorem refuse_params (s : State) (c : RefuseCode) : (s.refuse c).params = s.params := rfl
@[simp] theorem refuse_sh (s : State) (c : RefuseCode) : (s.refuse c).sh = s.sh := rfl
@[simp] theorem refuse_tc (s : State) (c : RefuseCode) : (s.refuse c).tc = s.tc := rfl
@[simp] theorem refuse_powerState (s : State) (c : RefuseCode) : (s.refuse c).powerState = s.powerState := rfl
@[simp] theorem refuse_clkRun (s : State) (c : RefuseCode) : (s.refuse c).clkRun = s.clkRun := rfl
@[simp] theorem refuse_tie (s : State) (c : RefuseCode) : (s.refuse c).tie = s.tie := rfl
@[simp] theorem refuse_tickPend (s : State) (c : RefuseCode) : (s.refuse c).tickPend = s.tickPend := rfl
@[simp] theorem refuse_wakeEn (s : State) (c : RefuseCode) : (s.refuse c).wakeEn = s.wakeEn := rfl
@[simp] theorem refuse_led (s : State) (c : RefuseCode) : (s.refuse c).led = s.led := rfl
@[simp] theorem refuse_sawZero (s : State) (c : RefuseCode) : (s.refuse c).sawZero = s.sawZero := rfl
@[simp] theorem refuse_long (s : State) (c : RefuseCode) : (s.refuse c).long = s.long := rfl
@[simp] theorem refuse_seq (s : State) (c : RefuseCode) : (s.refuse c).seq = s.seq := rfl
@[simp] theorem refuse_busy (s : State) (c : RefuseCode) : (s.refuse c).busy = s.busy := rfl
@[simp] theorem refuse_curOp (s : State) (c : RefuseCode) : (s.refuse c).curOp = s.curOp := rfl
@[simp] theorem refuse_opA (s : State) (c : RefuseCode) : (s.refuse c).opA = s.opA := rfl
@[simp] theorem refuse_opB (s : State) (c : RefuseCode) : (s.refuse c).opB = s.opB := rfl
@[simp] theorem refuse_tRef (s : State) (c : RefuseCode) : (s.refuse c).tRef = s.tRef := rfl
@[simp] theorem refuse_btnRaw (s : State) (c : RefuseCode) : (s.refuse c).btnRaw = s.btnRaw := rfl
@[simp] theorem refuse_btnPrev (s : State) (c : RefuseCode) : (s.refuse c).btnPrev = s.btnPrev := rfl
@[simp] theorem refuse_presc (s : State) (c : RefuseCode) : (s.refuse c).presc = s.presc := rfl
@[simp] theorem refuse_answer (s : State) (c : RefuseCode) : (s.refuse c).answer = some ⟨s.issuer, .refuse c⟩ := rfl
@[simp] theorem refuse_evValid (s : State) (c : RefuseCode) : (s.refuse c).evValid = s.evValid := rfl
@[simp] theorem refuse_client (s : State) (c : RefuseCode) : (s.refuse c).client = s.client := rfl
@[simp] theorem refuse_isr (s : State) (c : RefuseCode) : (s.refuse c).isr = s.isr := rfl
@[simp] theorem refuse_draws (s : State) (c : RefuseCode) : (s.refuse c).draws = s.draws := rfl
@[simp] theorem refuse_turns (s : State) (c : RefuseCode) : (s.refuse c).turns = s.turns := rfl
@[simp] theorem refuse_issuer (s : State) (c : RefuseCode) : (s.refuse c).issuer = s.issuer := rfl

/-! ### `clearSawZero`: the entry of WAIT_PATTERN (R18) -/

@[simp] theorem clearSawZero_params (s : State) : s.clearSawZero.params = s.params := rfl
@[simp] theorem clearSawZero_sh (s : State) : s.clearSawZero.sh = s.sh := rfl
@[simp] theorem clearSawZero_tc (s : State) : s.clearSawZero.tc = s.tc := rfl
@[simp] theorem clearSawZero_powerState (s : State) : s.clearSawZero.powerState = s.powerState := rfl
@[simp] theorem clearSawZero_clkRun (s : State) : s.clearSawZero.clkRun = s.clkRun := rfl
@[simp] theorem clearSawZero_tie (s : State) : s.clearSawZero.tie = s.tie := rfl
@[simp] theorem clearSawZero_tickPend (s : State) : s.clearSawZero.tickPend = s.tickPend := rfl
@[simp] theorem clearSawZero_wakeEn (s : State) : s.clearSawZero.wakeEn = s.wakeEn := rfl
@[simp] theorem clearSawZero_led (s : State) : s.clearSawZero.led = s.led := rfl
@[simp] theorem clearSawZero_sawZero (s : State) : s.clearSawZero.sawZero = false := rfl
@[simp] theorem clearSawZero_long (s : State) : s.clearSawZero.long = s.long := rfl
@[simp] theorem clearSawZero_seq (s : State) : s.clearSawZero.seq = s.seq := rfl
@[simp] theorem clearSawZero_busy (s : State) : s.clearSawZero.busy = s.busy := rfl
@[simp] theorem clearSawZero_curOp (s : State) : s.clearSawZero.curOp = s.curOp := rfl
@[simp] theorem clearSawZero_opA (s : State) : s.clearSawZero.opA = s.opA := rfl
@[simp] theorem clearSawZero_opB (s : State) : s.clearSawZero.opB = s.opB := rfl
@[simp] theorem clearSawZero_tRef (s : State) : s.clearSawZero.tRef = s.tRef := rfl
@[simp] theorem clearSawZero_btnRaw (s : State) : s.clearSawZero.btnRaw = s.btnRaw := rfl
@[simp] theorem clearSawZero_btnPrev (s : State) : s.clearSawZero.btnPrev = s.btnPrev := rfl
@[simp] theorem clearSawZero_presc (s : State) : s.clearSawZero.presc = s.presc := rfl
@[simp] theorem clearSawZero_answer (s : State) : s.clearSawZero.answer = s.answer := rfl
@[simp] theorem clearSawZero_evValid (s : State) : s.clearSawZero.evValid = s.evValid := rfl
@[simp] theorem clearSawZero_client (s : State) : s.clearSawZero.client = s.client := rfl
@[simp] theorem clearSawZero_isr (s : State) : s.clearSawZero.isr = s.isr := rfl
@[simp] theorem clearSawZero_draws (s : State) : s.clearSawZero.draws = s.draws := rfl
@[simp] theorem clearSawZero_turns (s : State) : s.clearSawZero.turns = s.turns := rfl
@[simp] theorem clearSawZero_issuer (s : State) : s.clearSawZero.issuer = s.issuer := rfl

/-! ### `observeZero`: the zero test of a poll (R103) -/

@[simp] theorem observeZero_params (s : State) (h : Hist) : (s.observeZero h).params = s.params := rfl
@[simp] theorem observeZero_sh (s : State) (h : Hist) : (s.observeZero h).sh = s.sh := rfl
@[simp] theorem observeZero_tc (s : State) (h : Hist) : (s.observeZero h).tc = s.tc := rfl
@[simp] theorem observeZero_powerState (s : State) (h : Hist) : (s.observeZero h).powerState = s.powerState := rfl
@[simp] theorem observeZero_clkRun (s : State) (h : Hist) : (s.observeZero h).clkRun = s.clkRun := rfl
@[simp] theorem observeZero_tie (s : State) (h : Hist) : (s.observeZero h).tie = s.tie := rfl
@[simp] theorem observeZero_tickPend (s : State) (h : Hist) : (s.observeZero h).tickPend = s.tickPend := rfl
@[simp] theorem observeZero_wakeEn (s : State) (h : Hist) : (s.observeZero h).wakeEn = s.wakeEn := rfl
@[simp] theorem observeZero_led (s : State) (h : Hist) : (s.observeZero h).led = s.led := rfl
@[simp] theorem observeZero_sawZero (s : State) (h : Hist) : (s.observeZero h).sawZero = (s.sawZero || h == 0x00#8) := rfl
@[simp] theorem observeZero_long (s : State) (h : Hist) : (s.observeZero h).long = s.long := rfl
@[simp] theorem observeZero_seq (s : State) (h : Hist) : (s.observeZero h).seq = s.seq := rfl
@[simp] theorem observeZero_busy (s : State) (h : Hist) : (s.observeZero h).busy = s.busy := rfl
@[simp] theorem observeZero_curOp (s : State) (h : Hist) : (s.observeZero h).curOp = s.curOp := rfl
@[simp] theorem observeZero_opA (s : State) (h : Hist) : (s.observeZero h).opA = s.opA := rfl
@[simp] theorem observeZero_opB (s : State) (h : Hist) : (s.observeZero h).opB = s.opB := rfl
@[simp] theorem observeZero_tRef (s : State) (h : Hist) : (s.observeZero h).tRef = s.tRef := rfl
@[simp] theorem observeZero_btnRaw (s : State) (h : Hist) : (s.observeZero h).btnRaw = s.btnRaw := rfl
@[simp] theorem observeZero_btnPrev (s : State) (h : Hist) : (s.observeZero h).btnPrev = s.btnPrev := rfl
@[simp] theorem observeZero_presc (s : State) (h : Hist) : (s.observeZero h).presc = s.presc := rfl
@[simp] theorem observeZero_answer (s : State) (h : Hist) : (s.observeZero h).answer = s.answer := rfl
@[simp] theorem observeZero_evValid (s : State) (h : Hist) : (s.observeZero h).evValid = s.evValid := rfl
@[simp] theorem observeZero_client (s : State) (h : Hist) : (s.observeZero h).client = s.client := rfl
@[simp] theorem observeZero_isr (s : State) (h : Hist) : (s.observeZero h).isr = s.isr := rfl
@[simp] theorem observeZero_draws (s : State) (h : Hist) : (s.observeZero h).draws = s.draws := rfl
@[simp] theorem observeZero_turns (s : State) (h : Hist) : (s.observeZero h).turns = s.turns := rfl
@[simp] theorem observeZero_issuer (s : State) (h : Hist) : (s.observeZero h).issuer = s.issuer := rfl

/-! ### `setLong`: the classification (R19) -/

@[simp] theorem setLong_params (s : State) (b : Bool) : (s.setLong b).params = s.params := rfl
@[simp] theorem setLong_sh (s : State) (b : Bool) : (s.setLong b).sh = s.sh := rfl
@[simp] theorem setLong_tc (s : State) (b : Bool) : (s.setLong b).tc = s.tc := rfl
@[simp] theorem setLong_powerState (s : State) (b : Bool) : (s.setLong b).powerState = s.powerState := rfl
@[simp] theorem setLong_clkRun (s : State) (b : Bool) : (s.setLong b).clkRun = s.clkRun := rfl
@[simp] theorem setLong_tie (s : State) (b : Bool) : (s.setLong b).tie = s.tie := rfl
@[simp] theorem setLong_tickPend (s : State) (b : Bool) : (s.setLong b).tickPend = s.tickPend := rfl
@[simp] theorem setLong_wakeEn (s : State) (b : Bool) : (s.setLong b).wakeEn = s.wakeEn := rfl
@[simp] theorem setLong_led (s : State) (b : Bool) : (s.setLong b).led = s.led := rfl
@[simp] theorem setLong_sawZero (s : State) (b : Bool) : (s.setLong b).sawZero = s.sawZero := rfl
@[simp] theorem setLong_long (s : State) (b : Bool) : (s.setLong b).long = b := rfl
@[simp] theorem setLong_seq (s : State) (b : Bool) : (s.setLong b).seq = s.seq := rfl
@[simp] theorem setLong_busy (s : State) (b : Bool) : (s.setLong b).busy = s.busy := rfl
@[simp] theorem setLong_curOp (s : State) (b : Bool) : (s.setLong b).curOp = s.curOp := rfl
@[simp] theorem setLong_opA (s : State) (b : Bool) : (s.setLong b).opA = s.opA := rfl
@[simp] theorem setLong_opB (s : State) (b : Bool) : (s.setLong b).opB = s.opB := rfl
@[simp] theorem setLong_tRef (s : State) (b : Bool) : (s.setLong b).tRef = s.tRef := rfl
@[simp] theorem setLong_btnRaw (s : State) (b : Bool) : (s.setLong b).btnRaw = s.btnRaw := rfl
@[simp] theorem setLong_btnPrev (s : State) (b : Bool) : (s.setLong b).btnPrev = s.btnPrev := rfl
@[simp] theorem setLong_presc (s : State) (b : Bool) : (s.setLong b).presc = s.presc := rfl
@[simp] theorem setLong_answer (s : State) (b : Bool) : (s.setLong b).answer = s.answer := rfl
@[simp] theorem setLong_evValid (s : State) (b : Bool) : (s.setLong b).evValid = s.evValid := rfl
@[simp] theorem setLong_client (s : State) (b : Bool) : (s.setLong b).client = s.client := rfl
@[simp] theorem setLong_isr (s : State) (b : Bool) : (s.setLong b).isr = s.isr := rfl
@[simp] theorem setLong_draws (s : State) (b : Bool) : (s.setLong b).draws = s.draws := rfl
@[simp] theorem setLong_turns (s : State) (b : Bool) : (s.setLong b).turns = s.turns := rfl
@[simp] theorem setLong_issuer (s : State) (b : Bool) : (s.setLong b).issuer = s.issuer := rfl

/-! ### `enterWait`: an entry step (R46) -/

@[simp] theorem enterWait_params (s : State) (op : Opcode) : (s.enterWait op).params = s.params := rfl
@[simp] theorem enterWait_sh (s : State) (op : Opcode) : (s.enterWait op).sh = s.sh := rfl
@[simp] theorem enterWait_tc (s : State) (op : Opcode) : (s.enterWait op).tc = s.tc := rfl
@[simp] theorem enterWait_powerState (s : State) (op : Opcode) : (s.enterWait op).powerState = s.powerState := rfl
@[simp] theorem enterWait_clkRun (s : State) (op : Opcode) : (s.enterWait op).clkRun = s.clkRun := rfl
@[simp] theorem enterWait_tie (s : State) (op : Opcode) : (s.enterWait op).tie = s.tie := rfl
@[simp] theorem enterWait_tickPend (s : State) (op : Opcode) : (s.enterWait op).tickPend = s.tickPend := rfl
@[simp] theorem enterWait_wakeEn (s : State) (op : Opcode) : (s.enterWait op).wakeEn = s.wakeEn := rfl
@[simp] theorem enterWait_led (s : State) (op : Opcode) : (s.enterWait op).led = s.led := rfl
@[simp] theorem enterWait_sawZero (s : State) (op : Opcode) : (s.enterWait op).sawZero = s.sawZero := rfl
@[simp] theorem enterWait_long (s : State) (op : Opcode) : (s.enterWait op).long = s.long := rfl
@[simp] theorem enterWait_seq (s : State) (op : Opcode) : (s.enterWait op).seq = s.seq := rfl
@[simp] theorem enterWait_busy (s : State) (op : Opcode) : (s.enterWait op).busy = true := rfl
@[simp] theorem enterWait_curOp (s : State) (op : Opcode) : (s.enterWait op).curOp = op := rfl
@[simp] theorem enterWait_opA (s : State) (op : Opcode) : (s.enterWait op).opA = s.opA := rfl
@[simp] theorem enterWait_opB (s : State) (op : Opcode) : (s.enterWait op).opB = s.opB := rfl
@[simp] theorem enterWait_tRef (s : State) (op : Opcode) : (s.enterWait op).tRef = s.tRef := rfl
@[simp] theorem enterWait_btnRaw (s : State) (op : Opcode) : (s.enterWait op).btnRaw = s.btnRaw := rfl
@[simp] theorem enterWait_btnPrev (s : State) (op : Opcode) : (s.enterWait op).btnPrev = s.btnPrev := rfl
@[simp] theorem enterWait_presc (s : State) (op : Opcode) : (s.enterWait op).presc = s.presc := rfl
@[simp] theorem enterWait_answer (s : State) (op : Opcode) : (s.enterWait op).answer = s.answer := rfl
@[simp] theorem enterWait_evValid (s : State) (op : Opcode) : (s.enterWait op).evValid = s.evValid := rfl
@[simp] theorem enterWait_client (s : State) (op : Opcode) : (s.enterWait op).client = s.client := rfl
@[simp] theorem enterWait_isr (s : State) (op : Opcode) : (s.enterWait op).isr = s.isr := rfl
@[simp] theorem enterWait_draws (s : State) (op : Opcode) : (s.enterWait op).draws = s.draws := rfl
@[simp] theorem enterWait_turns (s : State) (op : Opcode) : (s.enterWait op).turns = s.turns := rfl
@[simp] theorem enterWait_issuer (s : State) (op : Opcode) : (s.enterWait op).issuer = s.issuer := rfl

/-! ### `finishWait`: a completing poll step (R46) -/

@[simp] theorem finishWait_params (s : State) (v : BitVec 8) : (s.finishWait v).params = s.params := rfl
@[simp] theorem finishWait_sh (s : State) (v : BitVec 8) : (s.finishWait v).sh = s.sh := rfl
@[simp] theorem finishWait_tc (s : State) (v : BitVec 8) : (s.finishWait v).tc = s.tc := rfl
@[simp] theorem finishWait_powerState (s : State) (v : BitVec 8) : (s.finishWait v).powerState = s.powerState := rfl
@[simp] theorem finishWait_clkRun (s : State) (v : BitVec 8) : (s.finishWait v).clkRun = s.clkRun := rfl
@[simp] theorem finishWait_tie (s : State) (v : BitVec 8) : (s.finishWait v).tie = s.tie := rfl
@[simp] theorem finishWait_tickPend (s : State) (v : BitVec 8) : (s.finishWait v).tickPend = s.tickPend := rfl
@[simp] theorem finishWait_wakeEn (s : State) (v : BitVec 8) : (s.finishWait v).wakeEn = s.wakeEn := rfl
@[simp] theorem finishWait_led (s : State) (v : BitVec 8) : (s.finishWait v).led = s.led := rfl
@[simp] theorem finishWait_sawZero (s : State) (v : BitVec 8) : (s.finishWait v).sawZero = s.sawZero := rfl
@[simp] theorem finishWait_long (s : State) (v : BitVec 8) : (s.finishWait v).long = s.long := rfl
@[simp] theorem finishWait_seq (s : State) (v : BitVec 8) : (s.finishWait v).seq = s.seq := rfl
@[simp] theorem finishWait_busy (s : State) (v : BitVec 8) : (s.finishWait v).busy = false := rfl
@[simp] theorem finishWait_curOp (s : State) (v : BitVec 8) : (s.finishWait v).curOp = s.curOp := rfl
@[simp] theorem finishWait_opA (s : State) (v : BitVec 8) : (s.finishWait v).opA = s.opA := rfl
@[simp] theorem finishWait_opB (s : State) (v : BitVec 8) : (s.finishWait v).opB = s.opB := rfl
@[simp] theorem finishWait_tRef (s : State) (v : BitVec 8) : (s.finishWait v).tRef = s.tRef := rfl
@[simp] theorem finishWait_btnRaw (s : State) (v : BitVec 8) : (s.finishWait v).btnRaw = s.btnRaw := rfl
@[simp] theorem finishWait_btnPrev (s : State) (v : BitVec 8) : (s.finishWait v).btnPrev = s.btnPrev := rfl
@[simp] theorem finishWait_presc (s : State) (v : BitVec 8) : (s.finishWait v).presc = s.presc := rfl
@[simp] theorem finishWait_answer (s : State) (v : BitVec 8) : (s.finishWait v).answer = some ⟨s.issuer, .done v⟩ := rfl
@[simp] theorem finishWait_evValid (s : State) (v : BitVec 8) : (s.finishWait v).evValid = s.evValid := rfl
@[simp] theorem finishWait_client (s : State) (v : BitVec 8) : (s.finishWait v).client = s.client := rfl
@[simp] theorem finishWait_isr (s : State) (v : BitVec 8) : (s.finishWait v).isr = s.isr := rfl
@[simp] theorem finishWait_draws (s : State) (v : BitVec 8) : (s.finishWait v).draws = s.draws := rfl
@[simp] theorem finishWait_turns (s : State) (v : BitVec 8) : (s.finishWait v).turns = s.turns := rfl
@[simp] theorem finishWait_issuer (s : State) (v : BitVec 8) : (s.finishWait v).issuer = s.issuer := rfl

/-! ### `tickHandler`: the TICK handler (R168) -/

@[simp] theorem tickHandler_params (s : State) : (tickHandler s).params = s.params := rfl
@[simp] theorem tickHandler_sh (s : State) : (tickHandler s).sh = shiftIn s.sh s.btnRaw := rfl
@[simp] theorem tickHandler_tc (s : State) : (tickHandler s).tc = tickSucc s.params s.tc := rfl
@[simp] theorem tickHandler_powerState (s : State) : (tickHandler s).powerState = s.powerState := rfl
@[simp] theorem tickHandler_clkRun (s : State) : (tickHandler s).clkRun = s.clkRun := rfl
@[simp] theorem tickHandler_tie (s : State) : (tickHandler s).tie = s.tie := rfl
@[simp] theorem tickHandler_tickPend (s : State) : (tickHandler s).tickPend = false := rfl
@[simp] theorem tickHandler_wakeEn (s : State) : (tickHandler s).wakeEn = s.wakeEn := rfl
@[simp] theorem tickHandler_led (s : State) : (tickHandler s).led = s.led := rfl
@[simp] theorem tickHandler_sawZero (s : State) : (tickHandler s).sawZero = s.sawZero := rfl
@[simp] theorem tickHandler_long (s : State) : (tickHandler s).long = s.long := rfl
@[simp] theorem tickHandler_seq (s : State) : (tickHandler s).seq = s.seq := rfl
@[simp] theorem tickHandler_busy (s : State) : (tickHandler s).busy = s.busy := rfl
@[simp] theorem tickHandler_curOp (s : State) : (tickHandler s).curOp = s.curOp := rfl
@[simp] theorem tickHandler_opA (s : State) : (tickHandler s).opA = s.opA := rfl
@[simp] theorem tickHandler_opB (s : State) : (tickHandler s).opB = s.opB := rfl
@[simp] theorem tickHandler_tRef (s : State) : (tickHandler s).tRef = s.tRef := rfl
@[simp] theorem tickHandler_btnRaw (s : State) : (tickHandler s).btnRaw = s.btnRaw := rfl
@[simp] theorem tickHandler_btnPrev (s : State) : (tickHandler s).btnPrev = s.btnPrev := rfl
@[simp] theorem tickHandler_presc (s : State) : (tickHandler s).presc = s.presc := rfl
@[simp] theorem tickHandler_answer (s : State) : (tickHandler s).answer = s.answer := rfl
@[simp] theorem tickHandler_evValid (s : State) : (tickHandler s).evValid = s.evValid := rfl
@[simp] theorem tickHandler_client (s : State) : (tickHandler s).client = s.client := rfl
@[simp] theorem tickHandler_isr (s : State) : (tickHandler s).isr = s.isr := rfl
@[simp] theorem tickHandler_draws (s : State) : (tickHandler s).draws = s.draws := rfl
@[simp] theorem tickHandler_turns (s : State) : (tickHandler s).turns = s.turns := rfl
@[simp] theorem tickHandler_issuer (s : State) : (tickHandler s).issuer = s.issuer := rfl

/-! ### `wakeHandler`: the WAKE handler (R171) -/

@[simp] theorem wakeHandler_params (s : State) : (wakeHandler s).params = s.params := rfl
@[simp] theorem wakeHandler_sh (s : State) : (wakeHandler s).sh = s.sh := rfl
@[simp] theorem wakeHandler_tc (s : State) : (wakeHandler s).tc = s.tc := rfl
@[simp] theorem wakeHandler_powerState (s : State) : (wakeHandler s).powerState = .active := rfl
@[simp] theorem wakeHandler_clkRun (s : State) : (wakeHandler s).clkRun = s.clkRun := rfl
@[simp] theorem wakeHandler_tie (s : State) : (wakeHandler s).tie = s.tie := rfl
@[simp] theorem wakeHandler_tickPend (s : State) : (wakeHandler s).tickPend = s.tickPend := rfl
@[simp] theorem wakeHandler_wakeEn (s : State) : (wakeHandler s).wakeEn = false := rfl
@[simp] theorem wakeHandler_led (s : State) : (wakeHandler s).led = s.led := rfl
@[simp] theorem wakeHandler_sawZero (s : State) : (wakeHandler s).sawZero = s.sawZero := rfl
@[simp] theorem wakeHandler_long (s : State) : (wakeHandler s).long = s.long := rfl
@[simp] theorem wakeHandler_seq (s : State) : (wakeHandler s).seq = s.seq := rfl
@[simp] theorem wakeHandler_busy (s : State) : (wakeHandler s).busy = s.busy := rfl
@[simp] theorem wakeHandler_curOp (s : State) : (wakeHandler s).curOp = s.curOp := rfl
@[simp] theorem wakeHandler_opA (s : State) : (wakeHandler s).opA = s.opA := rfl
@[simp] theorem wakeHandler_opB (s : State) : (wakeHandler s).opB = s.opB := rfl
@[simp] theorem wakeHandler_tRef (s : State) : (wakeHandler s).tRef = s.tRef := rfl
@[simp] theorem wakeHandler_btnRaw (s : State) : (wakeHandler s).btnRaw = s.btnRaw := rfl
@[simp] theorem wakeHandler_btnPrev (s : State) : (wakeHandler s).btnPrev = s.btnPrev := rfl
@[simp] theorem wakeHandler_presc (s : State) : (wakeHandler s).presc = s.presc := rfl
@[simp] theorem wakeHandler_answer (s : State) : (wakeHandler s).answer = s.answer := rfl
@[simp] theorem wakeHandler_evValid (s : State) : (wakeHandler s).evValid = s.evValid := rfl
@[simp] theorem wakeHandler_client (s : State) : (wakeHandler s).client = s.client := rfl
@[simp] theorem wakeHandler_isr (s : State) : (wakeHandler s).isr = s.isr := rfl
@[simp] theorem wakeHandler_draws (s : State) : (wakeHandler s).draws = s.draws := rfl
@[simp] theorem wakeHandler_turns (s : State) : (wakeHandler s).turns = s.turns := rfl
@[simp] theorem wakeHandler_issuer (s : State) : (wakeHandler s).issuer = s.issuer := rfl

/-! ### `setPin`: a pin change (R42) -/

@[simp] theorem setPin_params (s : State) (b : Bool) : (s.setPin b).params = s.params := rfl
@[simp] theorem setPin_sh (s : State) (b : Bool) : (s.setPin b).sh = s.sh := rfl
@[simp] theorem setPin_tc (s : State) (b : Bool) : (s.setPin b).tc = s.tc := rfl
@[simp] theorem setPin_powerState (s : State) (b : Bool) : (s.setPin b).powerState = s.powerState := rfl
@[simp] theorem setPin_clkRun (s : State) (b : Bool) : (s.setPin b).clkRun = s.clkRun := rfl
@[simp] theorem setPin_tie (s : State) (b : Bool) : (s.setPin b).tie = s.tie := rfl
@[simp] theorem setPin_tickPend (s : State) (b : Bool) : (s.setPin b).tickPend = s.tickPend := rfl
@[simp] theorem setPin_wakeEn (s : State) (b : Bool) : (s.setPin b).wakeEn = s.wakeEn := rfl
@[simp] theorem setPin_led (s : State) (b : Bool) : (s.setPin b).led = s.led := rfl
@[simp] theorem setPin_sawZero (s : State) (b : Bool) : (s.setPin b).sawZero = s.sawZero := rfl
@[simp] theorem setPin_long (s : State) (b : Bool) : (s.setPin b).long = s.long := rfl
@[simp] theorem setPin_seq (s : State) (b : Bool) : (s.setPin b).seq = s.seq := rfl
@[simp] theorem setPin_busy (s : State) (b : Bool) : (s.setPin b).busy = s.busy := rfl
@[simp] theorem setPin_curOp (s : State) (b : Bool) : (s.setPin b).curOp = s.curOp := rfl
@[simp] theorem setPin_opA (s : State) (b : Bool) : (s.setPin b).opA = s.opA := rfl
@[simp] theorem setPin_opB (s : State) (b : Bool) : (s.setPin b).opB = s.opB := rfl
@[simp] theorem setPin_tRef (s : State) (b : Bool) : (s.setPin b).tRef = s.tRef := rfl
@[simp] theorem setPin_btnRaw (s : State) (b : Bool) : (s.setPin b).btnRaw = b := rfl
@[simp] theorem setPin_btnPrev (s : State) (b : Bool) : (s.setPin b).btnPrev = b := rfl
@[simp] theorem setPin_presc (s : State) (b : Bool) : (s.setPin b).presc = s.presc := rfl
@[simp] theorem setPin_answer (s : State) (b : Bool) : (s.setPin b).answer = s.answer := rfl
@[simp] theorem setPin_evValid (s : State) (b : Bool) : (s.setPin b).evValid = s.evValid := rfl
@[simp] theorem setPin_client (s : State) (b : Bool) : (s.setPin b).client = s.client := rfl
@[simp] theorem setPin_isr (s : State) (b : Bool) : (s.setPin b).isr = s.isr := rfl
@[simp] theorem setPin_draws (s : State) (b : Bool) : (s.setPin b).draws = s.draws := rfl
@[simp] theorem setPin_turns (s : State) (b : Bool) : (s.setPin b).turns = s.turns := rfl
@[simp] theorem setPin_issuer (s : State) (b : Bool) : (s.setPin b).issuer = s.issuer := rfl

/-! ### `armAndSleep`: `C_SLEEP` (R133) -/

@[simp] theorem armAndSleep_params (s : State) : (armAndSleep s).params = s.params := rfl
@[simp] theorem armAndSleep_sh (s : State) : (armAndSleep s).sh = s.sh := rfl
@[simp] theorem armAndSleep_tc (s : State) : (armAndSleep s).tc = s.tc := rfl
@[simp] theorem armAndSleep_powerState (s : State) : (armAndSleep s).powerState = .sleeping := rfl
@[simp] theorem armAndSleep_clkRun (s : State) : (armAndSleep s).clkRun = s.clkRun := rfl
@[simp] theorem armAndSleep_tie (s : State) : (armAndSleep s).tie = s.tie := rfl
@[simp] theorem armAndSleep_tickPend (s : State) : (armAndSleep s).tickPend = s.tickPend := rfl
@[simp] theorem armAndSleep_wakeEn (s : State) : (armAndSleep s).wakeEn = true := rfl
@[simp] theorem armAndSleep_led (s : State) : (armAndSleep s).led = s.led := rfl
@[simp] theorem armAndSleep_sawZero (s : State) : (armAndSleep s).sawZero = s.sawZero := rfl
@[simp] theorem armAndSleep_long (s : State) : (armAndSleep s).long = s.long := rfl
@[simp] theorem armAndSleep_seq (s : State) : (armAndSleep s).seq = .cAsleep := rfl
@[simp] theorem armAndSleep_busy (s : State) : (armAndSleep s).busy = s.busy := rfl
@[simp] theorem armAndSleep_curOp (s : State) : (armAndSleep s).curOp = s.curOp := rfl
@[simp] theorem armAndSleep_opA (s : State) : (armAndSleep s).opA = s.opA := rfl
@[simp] theorem armAndSleep_opB (s : State) : (armAndSleep s).opB = s.opB := rfl
@[simp] theorem armAndSleep_tRef (s : State) : (armAndSleep s).tRef = s.tRef := rfl
@[simp] theorem armAndSleep_btnRaw (s : State) : (armAndSleep s).btnRaw = s.btnRaw := rfl
@[simp] theorem armAndSleep_btnPrev (s : State) : (armAndSleep s).btnPrev = s.btnPrev := rfl
@[simp] theorem armAndSleep_presc (s : State) : (armAndSleep s).presc = s.presc := rfl
@[simp] theorem armAndSleep_answer (s : State) : (armAndSleep s).answer = s.answer := rfl
@[simp] theorem armAndSleep_evValid (s : State) : (armAndSleep s).evValid = s.evValid := rfl
@[simp] theorem armAndSleep_client (s : State) : (armAndSleep s).client = s.client := rfl
@[simp] theorem armAndSleep_isr (s : State) : (armAndSleep s).isr = s.isr := rfl
@[simp] theorem armAndSleep_draws (s : State) : (armAndSleep s).draws = s.draws := rfl
@[simp] theorem armAndSleep_turns (s : State) : (armAndSleep s).turns = s.turns := rfl

/-! ### `dispatch`: `C_DISPATCH` (R139) -/

@[simp] theorem dispatch_params (s : State) : (dispatch s).params = s.params := rfl
@[simp] theorem dispatch_sh (s : State) : (dispatch s).sh = s.sh := rfl
@[simp] theorem dispatch_tc (s : State) : (dispatch s).tc = s.tc := rfl
@[simp] theorem dispatch_powerState (s : State) : (dispatch s).powerState = s.powerState := rfl
@[simp] theorem dispatch_clkRun (s : State) : (dispatch s).clkRun = s.clkRun := rfl
@[simp] theorem dispatch_tie (s : State) : (dispatch s).tie = s.tie := rfl
@[simp] theorem dispatch_tickPend (s : State) : (dispatch s).tickPend = s.tickPend := rfl
@[simp] theorem dispatch_wakeEn (s : State) : (dispatch s).wakeEn = s.wakeEn := rfl
@[simp] theorem dispatch_led (s : State) : (dispatch s).led = s.led := rfl
@[simp] theorem dispatch_sawZero (s : State) : (dispatch s).sawZero = s.sawZero := rfl
@[simp] theorem dispatch_long (s : State) : (dispatch s).long = s.long := rfl
@[simp] theorem dispatch_seq (s : State) : (dispatch s).seq = if s.long then .cFun else .cStop := rfl
@[simp] theorem dispatch_busy (s : State) : (dispatch s).busy = s.busy := rfl
@[simp] theorem dispatch_curOp (s : State) : (dispatch s).curOp = s.curOp := rfl
@[simp] theorem dispatch_opA (s : State) : (dispatch s).opA = s.opA := rfl
@[simp] theorem dispatch_opB (s : State) : (dispatch s).opB = s.opB := rfl
@[simp] theorem dispatch_tRef (s : State) : (dispatch s).tRef = s.tRef := rfl
@[simp] theorem dispatch_btnRaw (s : State) : (dispatch s).btnRaw = s.btnRaw := rfl
@[simp] theorem dispatch_btnPrev (s : State) : (dispatch s).btnPrev = s.btnPrev := rfl
@[simp] theorem dispatch_presc (s : State) : (dispatch s).presc = s.presc := rfl
@[simp] theorem dispatch_answer (s : State) : (dispatch s).answer = s.answer := rfl
@[simp] theorem dispatch_evValid (s : State) : (dispatch s).evValid = true := rfl
@[simp] theorem dispatch_client (s : State) : (dispatch s).client = s.client := rfl
@[simp] theorem dispatch_isr (s : State) : (dispatch s).isr = s.isr := rfl
@[simp] theorem dispatch_draws (s : State) : (dispatch s).draws = s.draws := rfl
@[simp] theorem dispatch_turns (s : State) : (dispatch s).turns = s.turns := rfl

/-! ### `begin`: a turn is taken (R41) -/

@[simp] theorem begin_params (s : State) : s.begin.params = s.params := rfl
@[simp] theorem begin_sh (s : State) : s.begin.sh = s.sh := rfl
@[simp] theorem begin_tc (s : State) : s.begin.tc = s.tc := rfl
@[simp] theorem begin_powerState (s : State) : s.begin.powerState = s.powerState := rfl
@[simp] theorem begin_clkRun (s : State) : s.begin.clkRun = s.clkRun := rfl
@[simp] theorem begin_tie (s : State) : s.begin.tie = s.tie := rfl
@[simp] theorem begin_tickPend (s : State) : s.begin.tickPend = s.tickPend := rfl
@[simp] theorem begin_wakeEn (s : State) : s.begin.wakeEn = s.wakeEn := rfl
@[simp] theorem begin_led (s : State) : s.begin.led = s.led := rfl
@[simp] theorem begin_sawZero (s : State) : s.begin.sawZero = s.sawZero := rfl
@[simp] theorem begin_long (s : State) : s.begin.long = s.long := rfl
@[simp] theorem begin_seq (s : State) : s.begin.seq = s.seq := rfl
@[simp] theorem begin_busy (s : State) : s.begin.busy = s.busy := rfl
@[simp] theorem begin_curOp (s : State) : s.begin.curOp = s.curOp := rfl
@[simp] theorem begin_opA (s : State) : s.begin.opA = s.opA := rfl
@[simp] theorem begin_opB (s : State) : s.begin.opB = s.opB := rfl
@[simp] theorem begin_tRef (s : State) : s.begin.tRef = s.tRef := rfl
@[simp] theorem begin_btnRaw (s : State) : s.begin.btnRaw = s.btnRaw := rfl
@[simp] theorem begin_btnPrev (s : State) : s.begin.btnPrev = s.btnPrev := rfl
@[simp] theorem begin_presc (s : State) : s.begin.presc = s.presc := rfl
@[simp] theorem begin_answer (s : State) : s.begin.answer = none := rfl
@[simp] theorem begin_evValid (s : State) : s.begin.evValid = false := rfl
@[simp] theorem begin_client (s : State) : s.begin.client = s.client := rfl
@[simp] theorem begin_isr (s : State) : s.begin.isr = s.isr := rfl
@[simp] theorem begin_draws (s : State) : s.begin.draws = s.draws := rfl
@[simp] theorem begin_turns (s : State) : s.begin.turns = s.turns.tail := rfl
@[simp] theorem begin_issuer (s : State) : s.begin.issuer = s.issuer := rfl

/-! ### `resetStep`: the reset event (R190, R35) -/

@[simp] theorem resetStep_params (s : State) : (resetStep s).params = s.params := rfl
@[simp] theorem resetStep_sh (s : State) : (resetStep s).sh = Config.freeSh s.draws := rfl
@[simp] theorem resetStep_tc (s : State) : (resetStep s).tc = tickMod s.params (Config.freeTc s.draws) := rfl
@[simp] theorem resetStep_powerState (s : State) : (resetStep s).powerState = .sleeping := rfl
@[simp] theorem resetStep_clkRun (s : State) : (resetStep s).clkRun = false := rfl
@[simp] theorem resetStep_tie (s : State) : (resetStep s).tie = true := rfl
@[simp] theorem resetStep_tickPend (s : State) : (resetStep s).tickPend = false := rfl
@[simp] theorem resetStep_wakeEn (s : State) : (resetStep s).wakeEn = true := rfl
@[simp] theorem resetStep_led (s : State) : (resetStep s).led = Config.ledOff := rfl
@[simp] theorem resetStep_sawZero (s : State) : (resetStep s).sawZero = false := rfl
@[simp] theorem resetStep_long (s : State) : (resetStep s).long = false := rfl
@[simp] theorem resetStep_seq (s : State) : (resetStep s).seq = .cAsleep := rfl
@[simp] theorem resetStep_busy (s : State) : (resetStep s).busy = false := rfl
@[simp] theorem resetStep_curOp (s : State) : (resetStep s).curOp = Config.freeCurOp s.draws := rfl
@[simp] theorem resetStep_opA (s : State) : (resetStep s).opA = Config.freeOpA s.draws := rfl
@[simp] theorem resetStep_opB (s : State) : (resetStep s).opB = Config.freeOpB s.draws := rfl
@[simp] theorem resetStep_tRef (s : State) : (resetStep s).tRef = tickMod s.params (Config.freeTRef s.draws) := rfl
@[simp] theorem resetStep_btnRaw (s : State) : (resetStep s).btnRaw = s.btnRaw := rfl
@[simp] theorem resetStep_btnPrev (s : State) : (resetStep s).btnPrev = s.btnRaw := rfl
@[simp] theorem resetStep_presc (s : State) : (resetStep s).presc = 0 := rfl
@[simp] theorem resetStep_answer (s : State) : (resetStep s).answer = none := rfl
@[simp] theorem resetStep_evValid (s : State) : (resetStep s).evValid = false := rfl
@[simp] theorem resetStep_client (s : State) : (resetStep s).client = ⟨.idle, 0, 0⟩ := rfl
@[simp] theorem resetStep_isr (s : State) : (resetStep s).isr = false := rfl
@[simp] theorem resetStep_draws (s : State) : (resetStep s).draws = s.draws + 1 := rfl
@[simp] theorem resetStep_turns (s : State) : (resetStep s).turns = s.turns := rfl

end Sys2Proof.Machine
end

