-- ==== Sys2Proof/Laws/Ops.lean ====
section
/-! SUPPORT. What each shared operation can do, said once; the step and the run, unfolded once. -/

namespace Sys2Proof.Machine

/-! ### Outcomes, issuers, admission -/

@[simp] theorem mapNext_next (t : State) (f : State → State) : mapNext (.next t) f = .next (f t) := rfl

/-- Going on after an outcome answers a next state only from a next state. -/
theorem mapNext_eq_next {o : Host.Outcome State Fault Refusal} {f : State → State} {t : State}
    (h : mapNext o f = .next t) : ∃ u, o = .next u ∧ t = f u := by
  cases o with
  | next u => exact ⟨u, rfl, by simpa using h.symm⟩
  | fault r => cases h
  | refused r => cases h

theorem issuer_isr {s : State} (h : s.isr = true) : s.issuer = .isr := by simp [State.issuer, h]

theorem issuer_client {s : State} (h : s.isr = false) (h' : s.seq = .cFun) : s.issuer = .client := by
  simp [State.issuer, h, h']

theorem issuer_ctrl {s : State} (h : s.isr = false) (h' : s.seq ≠ .cFun) : s.issuer = .ctrl := by
  simp [State.issuer, h, h']

theorem checkIssuer_ok {i : Instr} {s : State} {k : State → State} (h : mayIssue s.issuer i = true) :
    checkIssuer i s k = .next (k s) := by simp [checkIssuer, h]

theorem checkIssuer_refused {i : Instr} {s : State} {k : State → State} (h : mayIssue s.issuer i = false) :
    checkIssuer i s k = .next (s.refuse .issuer) := by simp [checkIssuer, h]

/-! ### Interrupts -/

theorem fireTick_serviced {s : State} (h : s.tie = true) : fireTick s = tickHandler s := by
  simp [fireTick, h]

theorem fireTick_deferred {s : State} (h : s.tie = false) : fireTick s = { s with tickPend := true } := by
  simp [fireTick, h]

theorem tickStep_stopped {s : State} (h : s.clkRun = false) : tickStep s = s := by simp [tickStep, h]

theorem tickStep_running {s : State} (h : s.clkRun = true) : tickStep s = fireTick s := by
  simp [tickStep, h]

/-- A pin change either is the wake edge or changes the pin alone (R42). -/
theorem pinStep_cases (s : State) (b : Bool) :
    (s.btnRaw = true ∧ b = false ∧ s.wakeEn = true ∧ pinStep s b = wakeHandler (s.setPin b)) ∨
    (¬(s.btnRaw = true ∧ b = false ∧ s.wakeEn = true) ∧ pinStep s b = s.setPin b) := by
  by_cases h : s.btnRaw = true ∧ b = false ∧ s.wakeEn = true
  · exact .inl ⟨h.1, h.2.1, h.2.2, by simp [pinStep, h]⟩
  · exact .inr ⟨h, by simp [pinStep, h]⟩

/-- The two edge detectors agree where the previous level is the pin's level (R23). -/
theorem edgeStep_eq_pinStep {s : State} (h : s.btnPrev = s.btnRaw) (b : Bool) :
    edgeStep s b = pinStep s b := by simp [edgeStep, pinStep, h]

/-- The prescaler's part of a clock cycle, case by case (R212 item 3). -/
theorem countTick_cases (s : State) :
    (s.clkRun = false ∧ countTick s = s) ∨
    (s.clkRun = true ∧ s.presc + 1 = s.params.tickDiv ∧ countTick s = fireTick { s with presc := 0 }) ∨
    (s.clkRun = true ∧ s.presc + 1 ≠ s.params.tickDiv ∧
      countTick s = { s with presc := s.presc + 1 }) := by
  cases hc : s.clkRun with
  | false => exact .inl ⟨rfl, by simp [countTick, hc]⟩
  | true =>
    by_cases hp : s.presc + 1 = s.params.tickDiv
    · exact .inr (.inl ⟨rfl, hp, by simp [countTick, hc, hp]⟩)
    · exact .inr (.inr ⟨rfl, hp, by simp [countTick, hc, hp]⟩)

/-! ### What no operation writes -/

/-- Two states agree on everything no operation of 30_encoding.md R63 writes. -/
structure SameSurroundings (s t : State) : Prop where
  params : t.params = s.params
  long : t.long = s.long
  seq : t.seq = s.seq
  btnRaw : t.btnRaw = s.btnRaw
  btnPrev : t.btnPrev = s.btnPrev
  evValid : t.evValid = s.evValid
  client : t.client = s.client
  isr : t.isr = s.isr
  draws : t.draws = s.draws
  turns : t.turns = s.turns

/-- An operation's next state, said by its admission: refused by issuer, or the effect. -/
theorem checkIssuer_cases {i : Instr} {s t : State} {k : State → State} (h : checkIssuer i s k = .next t) :
    (mayIssue s.issuer i = false ∧ t = s.refuse .issuer) ∨ (mayIssue s.issuer i = true ∧ t = k s) := by
  cases hm : mayIssue s.issuer i with
  | false => rw [checkIssuer_refused hm] at h; cases h; exact .inl ⟨rfl, rfl⟩
  | true => rw [checkIssuer_ok hm] at h; cases h; exact .inr ⟨rfl, rfl⟩

/-- Every meaning is an admission: of which operation, with which effect. -/
theorem exec_eq_checkIssuer (i : Instr) (s : State) :
    ∃ k : State → State, exec i s = checkIssuer i s k ∧ SameSurroundings s (k s) := by
  cases i <;>
    simp only [exec, execClkStart, execClkStop, execWaitTick, execDelay, execRead, execHasPattern,
      execWaitPattern, execReset, execArmWake, execSleep, execLedsOff, execLedSet, execTickMask,
      execTickUnmask, execSample] <;>
    refine ⟨_, rfl, ?_⟩ <;> (try split) <;> constructor <;> rfl

/-- No operation writes its surroundings. -/
theorem exec_surroundings {i : Instr} {s t : State} (h : exec i s = .next t) : SameSurroundings s t := by
  obtain ⟨k, hk, hs⟩ := exec_eq_checkIssuer i s
  rw [hk] at h
  obtain ⟨-, rfl⟩ | ⟨-, rfl⟩ := checkIssuer_cases h
  · constructor <;> rfl
  · exact hs

/-! ### Steps and runs -/

/-- The step of a state whose next turn is `e`. -/
theorem step_cons {s : State} {e : Turn} {es : List Turn} (h : s.turns = e :: es) :
    step s = runTurn e { s with turns := es }.clearPulses := by
  simp [step, State.nextTurn, State.begin, h]

/-- The step of a state with no turn scheduled. -/
theorem step_nil {s : State} (h : s.turns = []) :
    step s = runTurn (.fg (.ports Port.quiet)) s.clearPulses := by
  cases s; subst h; rfl

@[simp] theorem run_zero (s : State) : run 0 s = .next s := rfl

/-- One more step of a run. -/
theorem run_succ {n : Nat} {s t : State} (h : step s = .next t) : run (n + 1) s = run n t := by
  simp [run, h]

/-- Runs compose. -/
theorem run_add {m n : Nat} {s t : State} (h : run m s = .next t) : run (m + n) s = run n t := by
  induction m generalizing s with
  | zero => cases h; simp
  | succ m ih =>
    cases hs : step s with
    | next u =>
      rw [run_succ hs] at h
      rw [show m + 1 + n = (m + n) + 1 by omega, run_succ hs]
      exact ih h
    | fault r => cases r
    | refused r => simp [run, hs] at h

/-- `run` is the host's run of the machine. -/
theorem run_eq_host (n : Nat) (s : State) : run n s = Host.Core.run Sys2Proof.core n s := by
  induction n generalizing s with
  | zero => rfl
  | succ n ih =>
    have hr := Host.Core.run.eq_2 Sys2Proof.core s n
    cases hs : step s with
    | next u =>
      have hs' : Sys2Proof.core.step s = .next u := hs
      rw [hs'] at hr
      exact (run_succ hs).trans ((ih u).trans hr.symm)
    | fault r => cases r
    | refused r =>
      have hs' : Sys2Proof.core.step s = .refused r := hs
      rw [hs'] at hr
      have hl : run (n + 1) s = .refused r := by simp [run, hs]
      exact hl.trans hr.symm

end Sys2Proof.Machine
end

