-- ==== Sys2Proof/Laws/PerInstr.lean ====
section
/-! SUPPORT. Statements made per instruction: the word of an operation fits its row of the opcode table
(30_encoding.md R63). -/

namespace Sys2Proof.Laws

/-- The encoder's word for `i` satisfies `(W & mask) == match` of its row (R63). -/
def WordFitsRow.Statement (i : Instr) : Prop := (tableRows[i.row]).fits (encode i) = true

theorem WordFitsRow.clkStart : WordFitsRow.Statement .clkStart := by
  unfold WordFitsRow.Statement; decide

theorem WordFitsRow.clkStop : WordFitsRow.Statement .clkStop := by
  unfold WordFitsRow.Statement; decide

theorem WordFitsRow.waitTick : WordFitsRow.Statement .waitTick := by
  unfold WordFitsRow.Statement; decide

theorem WordFitsRow.delay (n : BitVec 8) : WordFitsRow.Statement (.delay n) := by
  simp [WordFitsRow.Statement, Instr.row, tableRows, TableRow.fits, encode, pack_and_maskA1]; decide

theorem WordFitsRow.read : WordFitsRow.Statement .read := by
  unfold WordFitsRow.Statement; decide

theorem WordFitsRow.hasPattern (expected mask : Hist) : WordFitsRow.Statement (.hasPattern expected mask) := by
  simp [WordFitsRow.Statement, Instr.row, tableRows, TableRow.fits, encode, pack_and_maskAB]; decide

theorem WordFitsRow.waitPattern (expected mask : Hist) : WordFitsRow.Statement (.waitPattern expected mask) := by
  simp [WordFitsRow.Statement, Instr.row, tableRows, TableRow.fits, encode, pack_and_maskAB]; decide

theorem WordFitsRow.reset (seed : Hist) : WordFitsRow.Statement (.reset seed) := by
  simp [WordFitsRow.Statement, Instr.row, tableRows, TableRow.fits, encode, pack_and_maskA1]; decide

theorem WordFitsRow.armWake : WordFitsRow.Statement .armWake := by
  unfold WordFitsRow.Statement; decide

theorem WordFitsRow.sleep : WordFitsRow.Statement .sleep := by
  unfold WordFitsRow.Statement; decide

theorem WordFitsRow.ledsOff : WordFitsRow.Statement .ledsOff := by
  unfold WordFitsRow.Statement; decide

theorem WordFitsRow.ledSet (m : LedMask) : WordFitsRow.Statement (.ledSet m) := by
  simp [WordFitsRow.Statement, Instr.row, tableRows, TableRow.fits, encode, packL_and_maskL]

theorem WordFitsRow.tickMask : WordFitsRow.Statement .tickMask := by
  unfold WordFitsRow.Statement; decide

theorem WordFitsRow.tickUnmask : WordFitsRow.Statement .tickUnmask := by
  unfold WordFitsRow.Statement; decide

theorem WordFitsRow.sample : WordFitsRow.Statement .sample := by
  unfold WordFitsRow.Statement; decide

end Sys2Proof.Laws
end

