-- ==== Sys2Proof/Tests/Slice0.lean ====
section
/-! SUPPORT. Our own tests: the smoke of the checks, words written out from 30_encoding.md R71, one step
each on the vectors of 95_test_vectors.md (cited by their numbers), and for every obligation with hypotheses
a concrete state that meets them (`witness_…`). -/

namespace Sys2Proof.Tests

open Sys2Proof Sys2Proof.Machine

/-- The client has the foreground, awake, with the clock running. -/
def atClient : State :=
  { State.reset with powerState := .active, wakeEn := false, clkRun := true, long := true, seq := .cFun }

/-- The controller has the foreground at `q`, awake, with the clock stopped. -/
def atCtrl (q : SeqState) : State :=
  { State.reset with powerState := .active, wakeEn := false, seq := q }

/-! ### WellFormed smoke: an ill-formed term for each check -/

theorem test_word_ok : wordWellFormed 0x40500#20 = true := by decide
theorem test_word_opcodeZero_refused : wordWellFormed 0x00000#20 = false := by decide
theorem test_word_formatZ_refused : wordWellFormed 0x10001#20 = false := by decide
theorem test_word_formatA1_refused : wordWellFormed 0x40501#20 = false := by decide
theorem test_word_formatL_refused : wordWellFormed 0xC0800#20 = false := by decide

theorem test_params_ok : Params.reference.wellFormed = true := by decide
theorem test_params_tickW_refused : { Params.reference with tickW := 7 }.wellFormed = false := by decide
theorem test_params_tickDiv_refused : { Params.reference with tickDiv := 3 }.wellFormed = false := by
  decide
theorem test_params_tap_refused : { Params.reference with tapExp := 0x04#8 }.wellFormed = false := by
  decide
theorem test_params_npat_refused : { Params.reference with patterns := [] }.wellFormed = false := by decide
theorem test_params_period_refused :
    { Params.reference with patterns := [[0x7FE#11], []] }.wellFormed = false := by decide

/-! ### Decoding: the words of R71 and of 95_test_vectors.md section 3.4 -/

theorem test_decode_clkStart : decode 0x10000#20 = .ok .clkStart := rfl
theorem test_decode_clkStop : decode 0x20000#20 = .ok .clkStop := rfl
theorem test_decode_waitTick : decode 0x30000#20 = .ok .waitTick := rfl
theorem test_decode_delay : decode 0x40500#20 = .ok (.delay 5#8) := rfl
theorem test_decode_read : decode 0x50000#20 = .ok .read := rfl
theorem test_decode_hasPattern : decode 0x61303#20 = .ok (.hasPattern 0x13#8 0x03#8) := rfl
theorem test_decode_waitPattern : decode 0x71F0F#20 = .ok (.waitPattern 0x1F#8 0x0F#8) := rfl
theorem test_decode_reset : decode 0x8E000#20 = .ok (.reset 0xE0#8) := rfl
theorem test_decode_armWake : decode 0x90000#20 = .ok .armWake := rfl
theorem test_decode_sleep : decode 0xA0000#20 = .ok .sleep := rfl
theorem test_decode_ledsOff : decode 0xB0000#20 = .ok .ledsOff := rfl
theorem test_decode_ledSet : decode 0xC07FF#20 = .ok (.ledSet 0x7FF#11) := rfl
theorem test_decode_tickMask : decode 0xD0000#20 = .ok .tickMask := rfl
theorem test_decode_tickUnmask : decode 0xE0000#20 = .ok .tickUnmask := rfl
theorem test_decode_sample : decode 0xF0000#20 = .ok .sample := rfl
theorem test_decode_opcodeZero : decode 0x0FFFF#20 = .error .opcodeZero := rfl
theorem test_decode_formatZ : decode 0x5FF00#20 = .error .formatZ := rfl
theorem test_decode_formatA1 : decode 0x8E001#20 = .error .formatA1 := rfl
theorem test_decode_formatL : decode 0xCF000#20 = .error .formatL := rfl
theorem test_decodeTableWord : decodeTableWord 24 0x40500 = some (.delay 5#8) := rfl
theorem test_decodeTableWord_too_wide : decodeTableWord 24 0x110000 = none := rfl

/-! ### One step each -/

/-- K1. -/
theorem test_clkStart_k1 :
    ∃ t, exec .clkStart { atClient with clkRun := false, tc := 0x37, sh := 0x5A#8 } = .next t ∧
      t.clkRun = true ∧ t.tc = 0 ∧ t.sh = 0x5A#8 := ⟨_, rfl, rfl, rfl, rfl⟩

/-- K2: the restart drops the pending tick and keeps the mask. -/
theorem test_clkStart_k2 :
    ∃ t, exec .clkStart { atClient with tc := 0x0E, tie := false, tickPend := true } = .next t ∧
      t.tc = 0 ∧ t.tie = false ∧ t.tickPend = false := ⟨_, rfl, rfl, rfl, rfl⟩

/-- K3. -/
theorem test_clkStop_k3 :
    ∃ t, exec .clkStop { atClient with tc := 0x0E, sh := 0x87#8 } = .next t ∧ t.clkRun = false ∧
      t.tc = 0x0E ∧ t.sh = 0x87#8 := ⟨_, rfl, rfl, rfl, rfl⟩

/-- Q15. -/
theorem test_clkStop_q15 :
    ∃ t, exec .clkStop { atClient with tie := false, tickPend := true } = .next t ∧ t.clkRun = false ∧
      t.tickPend = false ∧ t.tie = false := ⟨_, rfl, rfl, rfl, rfl⟩

/-- K7: the entry step. -/
theorem test_waitTick_k7_entry :
    ∃ t, exec .waitTick { atClient with tc := 5 } = .next t ∧ t.tRef = 5 ∧ t.busy = true :=
  ⟨_, rfl, rfl, rfl⟩

/-- K8: the first poll sees 06 and completes. -/
theorem test_waitTick_k8_poll :
    ∃ t, step { atClient with tc := 6, tRef := 5, busy := true, curOp := 0x3#4 } = .next t ∧
      t.busy = false ∧ t.response = some (.done 0x00#8) := ⟨_, rfl, rfl, rfl⟩

/-- L6: the target does not wrap. -/
theorem test_delay_l6 :
    ∃ t, exec (.delay 5#8) { atClient with tc := 0xFA } = .next t ∧ t.tRef = 0xFF ∧ t.opA = 5#8 :=
  ⟨_, rfl, rfl, rfl⟩

/-- L7: the target wraps. -/
theorem test_delay_l7 :
    ∃ t, exec (.delay 6#8) { atClient with tc := 0xFA } = .next t ∧ t.tRef = 0 := ⟨_, rfl, rfl⟩

/-- P3: READ of `F9`. -/
theorem test_read :
    ∃ t, exec .read { atClient with sh := 0xF9#8 } = .next t ∧ t.response = some (.done 0xF9#8) :=
  ⟨_, rfl, rfl⟩

/-- H5: the upper bits are ignored. -/
theorem test_hasPattern_h5 :
    ∃ t, exec (.hasPattern 0x05#8 0x0F#8) { atClient with sh := 0xA5#8 } = .next t ∧
      t.response = some (.done 0x01#8) := ⟨_, rfl, rfl⟩

/-- H10: `expected` has a 1 outside `mask`. -/
theorem test_hasPattern_h10 :
    ∃ t, exec (.hasPattern 0x13#8 0x03#8) { atClient with sh := 0x12#8 } = .next t ∧
      t.response = some (.done 0x00#8) := ⟨_, rfl, rfl⟩

/-- W2: the one snapshot is all zero. -/
theorem test_waitPattern_w2_poll :
    ∃ t, step { atClient with
      sh := 0x00#8, busy := true, curOp := 0x7#4, opA := 0x00#8, opB := 0x03#8 } = .next t ∧
      t.busy = false ∧ t.response = some (.done 0x01#8) := ⟨_, rfl, rfl, rfl⟩

/-- W5: the pin was low, yet the result is 0. -/
theorem test_waitPattern_w5_poll :
    ∃ t, step { atClient with
      sh := 0xF8#8, busy := true, curOp := 0x7#4, opA := 0x00#8, opB := 0x07#8 } = .next t ∧
      t.busy = false ∧ t.response = some (.done 0x00#8) := ⟨_, rfl, rfl, rfl⟩

/-- X2. -/
theorem test_reset_seed :
    ∃ t, exec (.reset 0xE0#8) { atCtrl .cReseed with sh := 0x5A#8, tc := 9 } = .next t ∧
      t.sh = 0xE0#8 ∧ t.tc = 9 := ⟨_, rfl, rfl, rfl⟩

/-- P5: RESET from the client is refused with code 2. -/
theorem test_reset_p5 :
    ∃ t, exec (.reset 0xE0#8) { atClient with sh := 0x3C#8 } = .next t ∧ t.sh = 0x3C#8 ∧
      t.response = some (.refuse .issuer) := ⟨_, rfl, rfl, rfl⟩

/-- Q1. -/
theorem test_armWake_q1 :
    ∃ t, exec .armWake (atCtrl .cSleep) = .next t ∧ t.wakeEn = true := ⟨_, rfl, rfl⟩

/-- Q2. -/
theorem test_sleep_q2 :
    ∃ t, exec .sleep { atCtrl .cSleep with wakeEn := true } = .next t ∧ t.powerState = .sleeping :=
  ⟨_, rfl, rfl⟩

/-- Q3. -/
theorem test_sleep_q3 :
    ∃ t, exec .sleep { atCtrl .cSleep with clkRun := true } = .next t ∧ t.powerState = .active ∧
      t.answer = some ⟨.ctrl, .refuse .precond⟩ := ⟨_, rfl, rfl, rfl⟩

/-- Q8. -/
theorem test_ledsOff_q8 :
    ∃ t, exec .ledsOff { atClient with led := 0x2AA#11 } = .next t ∧ t.led = 0x7FF#11 := ⟨_, rfl, rfl⟩

/-- Q9. -/
theorem test_ledSet_q9 :
    ∃ t, exec (.ledSet 0x555#11) { atClient with led := 0x7FF#11 } = .next t ∧ t.led = 0x555#11 :=
  ⟨_, rfl, rfl⟩

/-- Q11. -/
theorem test_tickMask_q11 : ∃ t, exec .tickMask atClient = .next t ∧ t.tie = false := ⟨_, rfl, rfl⟩

/-- Q13. -/
theorem test_tickUnmask_q13 :
    ∃ t, exec .tickUnmask { atClient with
      tie := false, tickPend := true, sh := 0x1F#8, tc := 7, btnRaw := false } = .next t ∧
      t.tie = true ∧ t.tickPend = false ∧ t.sh = 0x3E#8 ∧ t.tc = 8 := ⟨_, rfl, rfl, rfl, rfl, rfl⟩

/-- Q16. -/
theorem test_tickUnmask_q16 :
    ∃ t, exec .tickUnmask { atClient with sh := 0x1F#8, tc := 7 } = .next t ∧ t.sh = 0x1F#8 ∧ t.tc = 7 :=
  ⟨_, rfl, rfl, rfl⟩

/-- The SAMPLE line of section 3.2: `A5,1 -> 4B`. -/
theorem test_sample :
    ∃ t, exec .sample { atClient with isr := true, sh := 0xA5#8, btnRaw := true } = .next t ∧
      t.sh = 0x4B#8 ∧ t.response = none := ⟨_, rfl, rfl, rfl⟩

/-- K6: the silent wrap. -/
theorem test_tick_k6 :
    ∃ t, step { atClient with tc := 0xFF, sh := 0xFF#8, btnRaw := false, turns := [.tick] } = .next t ∧
      t.tc = 0 ∧ t.sh = 0xFE#8 := ⟨_, rfl, rfl, rfl⟩

/-- Q4. -/
theorem test_pin_q4 :
    ∃ t, step { State.reset with turns := linePin false } = .next t ∧ t.powerState = .active ∧
      t.wakeEn = false := ⟨_, rfl, rfl, rfl⟩

/-- Q5. -/
theorem test_pin_q5 :
    ∃ t, step { State.reset with btnRaw := false, btnPrev := false, turns := [.pin true] } = .next t ∧
      t.powerState = .sleeping ∧ t.wakeEn = true := ⟨_, rfl, rfl, rfl⟩

/-- P5: `0xA0001` from the client: reserved beats issuer. -/
theorem test_offer_p5 :
    ∃ t, step { atClient with turns := [.fg (.ports (Port.offer 0xA0001#20))] } = .next t ∧
      t.outputs.rspErr = true ∧ t.outputs.rspCode = 1#2 := ⟨_, rfl, rfl, rfl⟩

/-- Y1, cycle 7: the poll fails, then the tick falls. -/
theorem test_cycle_y1_7 :
    ∃ t, step { atCtrl .cSettleA with
      clkRun := true, busy := true, curOp := 0x7#4, opA := 0x1F#8, opB := 0x1F#8, sh := 0xE0#8,
      presc := 3, turns := [.cycle false true .engine] } = .next t ∧
      t.sh = 0xC1#8 ∧ t.tc = 1 ∧ t.presc = 0 ∧ t.busy = true := ⟨_, rfl, rfl, rfl, rfl, rfl⟩

/-- Y1, cycle 3: the prescaler does not count in the cycle of a CLK_START. -/
theorem test_cycle_y1_3 :
    ∃ t, step { atCtrl .cStart with tc := 0x5A, turns := [.cycle false true .engine] } = .next t ∧
      t.tc = 0 ∧ t.presc = 0 ∧ t.seq = .cSettleA := ⟨_, rfl, rfl, rfl, rfl⟩

/-- H11: the classifier on the seed's window of five (41_debounce_engine.md R110). -/
theorem test_classify_seed : classify 0xE0#8 (recentWindow 5) = .pressed := by decide

/-! ### Witnesses: the hypotheses of each obligation are met -/

theorem witness_EncodeOfDecodeIsTheWord : decode 0x50000#20 = .ok .read := rfl

theorem witness_ReservedEncodingsAreTheFourCases :
    (∀ c, decode 0x4FF00#20 ≠ .error c) ∧ decode 0xFFFFF#20 = .error .formatZ :=
  ⟨fun c h => (by cases h), rfl⟩

theorem witness_OfferedWordRunsItsInstruction :
    ∃ s : State, ∃ es, s.turns = .fg (.ports (Port.offer 0x4FF00#20)) :: es ∧ s.powerState = .active ∧
      s.busy = false ∧ s.seq = .cFun ∧ s.isr = false ∧ decode 0x4FF00#20 = .ok (.delay 0xFF#8) :=
  ⟨{ atClient with turns := [.fg (.ports (Port.offer 0x4FF00#20))] }, [], rfl, rfl, rfl, rfl, rfl, rfl⟩

theorem witness_OfferedWord_reserved :
    ∃ s : State, ∃ es, s.turns = .fg (.ports (Port.offer 0x00000#20)) :: es ∧ s.powerState = .active ∧
      s.busy = false ∧ s.seq = .cFun ∧ s.isr = false ∧ decode 0x00000#20 = .error .opcodeZero :=
  ⟨{ atClient with turns := [.fg (.ports (Port.offer 0x00000#20))] }, [], rfl, rfl, rfl, rfl, rfl, rfl⟩

theorem witness_PlacedWordRunsItsInstruction :
    State.reset.isr = false ∧ Instr.read ≠ .sample ∧ Instr.sample = .sample := by decide

/-- For ClkStartRestartsTheClock, ClkStopFreezesHistoryAndCounter, BlockingOperationsEnterTheirWaits,
ReadReturnsTheHistory, HasPatternComparesUnderTheMask, LedOperationsWriteTheMask: both issuers they speak
of. -/
theorem witness_foreground_issuers :
    atClient.issuer = .client ∧ atClient.issuer ≠ .isr ∧ (atCtrl .cStop).issuer = .ctrl ∧
      (atCtrl .cStop).issuer ≠ .isr := by decide

theorem witness_HasPattern_outside_mask : 0x13#8 &&& ~~~0x03#8 ≠ 0x00#8 := by decide

theorem witness_SampleShiftsThePinIn :
    { atClient with isr := true }.issuer = .isr ∧ atClient.issuer ≠ .isr := by decide

theorem witness_ResetOverwritesTheHistory :
    (atCtrl .cReseed).issuer = .ctrl ∧ atClient.issuer = .client := by decide

theorem witness_ArmWakeArmsAndSleepSleeps :
    ((atCtrl .cSleep).issuer = .ctrl ∧ (atCtrl .cSleep).clkRun = false) ∧
    ({ atCtrl .cSleep with clkRun := true }.issuer = .ctrl ∧
      { atCtrl .cSleep with clkRun := true }.clkRun = true) ∧ atClient.issuer = .client := by decide

theorem witness_TickMaskDefersAndUnmaskServices :
    (atClient.issuer ≠ .isr ∧ atClient.tickPend = false) ∧
    ({ atClient with tie := false, tickPend := true }.issuer ≠ .isr ∧
      { atClient with tie := false, tickPend := true }.tickPend = true) := by decide

theorem witness_IssuerCheckRefusesWithCodeTwo :
    mayIssue atClient.issuer .sleep = false ∧ mayIssue atClient.issuer .sample = false ∧
    mayIssue { atClient with isr := true }.issuer .read = false := by decide

/-- For PollStepsOfTheThreeWaits and BusyForegroundIgnoresThePort: a poll of `op` with `d` on the port. -/
def polling (op : Opcode) (d : Drive) : State :=
  { atClient with busy := true, curOp := op, client := ⟨.pace, 0, 0⟩, turns := [.fg d] }

theorem witness_PollStepsOfTheThreeWaits :
    ∀ op ∈ [0x3#4, 0x4#4, 0x7#4], ∀ d ∈ [Drive.engine, .ports (Port.offer 0x50000#20)],
      (polling op d).turns = [.fg d] ∧ (polling op d).powerState = .active ∧ (polling op d).busy = true ∧
        (polling op d).seq = .cFun ∧ (polling op d).isr = false ∧ (polling op d).curOp = op := by decide

/-- For GoToSleepTransitions, WakeUpTransitions, SettlingStatesEnterTheirWaits,
DispatchEmitsThePressAndChooses: a foreground turn in each state of the controller. -/
theorem witness_controller_transitions :
    ∀ q ∈ [SeqState.cStop, .cLedoff, .cSleep, .cAsleep, .cReseed, .cStart, .cSettleA, .cSettleB, .cSettleC,
        .cDispatch], ∀ l ∈ [false, true],
      let s := { atCtrl q with long := l, turns := [quietFg] }
      s.turns = [.fg (.ports Port.quiet)] ∧ s.powerState = .active ∧ s.busy = false ∧ s.isr = false ∧
        s.seq = q ∧ s.long = l := by decide

/-- The pattern seen (`07`) and not seen (`0B`), in each settling state. -/
theorem witness_SettlingWaitCompletionAdvances :
    ∀ q ∈ [SeqState.cSettleA, .cSettleB, .cSettleC], ∀ h ∈ [0x07#8, 0x0B#8],
      let s := { atCtrl q with
        busy := true, curOp := 0x7#4, opA := 0x07#8, opB := 0x07#8, sh := h, turns := [.fg .engine] }
      s.turns = [.fg .engine] ∧ s.powerState = .active ∧ s.busy = true ∧ s.isr = false ∧
        s.curOp = 0x7#4 ∧ s.seq = q ∧ s.seq ≠ .cFun ∧ (s.sh &&& s.opB = s.opA ↔ h = 0x07#8) := by decide

theorem witness_HandBackWinsOverAnOfferedWord :
    ∀ p ∈ [Port.quiet, ⟨true, 0x50000#20, true⟩],
      let s := { atClient with turns := [.fg (.ports p)] }
      s.turns = [.fg (.ports p)] ∧ s.powerState = .active ∧ s.busy = false ∧ s.seq = .cFun ∧
        (p.funDone = true ∨ p.funDone = false ∧ p.cmdValid = false) := by decide

theorem witness_FusedSleepIsArmWakeThenSleep :
    (atCtrl .cSleep).issuer = .ctrl ∧ (atCtrl .cSleep).clkRun = false := by decide

/-- The wake edge, and three changes that are none: rising, disarmed, no change. -/
theorem witness_PinChangeAndWakeInterrupt :
    (State.reset.btnRaw = true ∧ false = false ∧ State.reset.wakeEn = true) ∧
    ¬(State.reset.btnRaw = true ∧ true = false ∧ State.reset.wakeEn = true) ∧
    ¬(atClient.btnRaw = true ∧ false = false ∧ atClient.wakeEn = true) ∧
    { State.reset with turns := [.pin false] }.turns = [.pin false] := by decide

theorem witness_TickServicedDeferredOrDisabled :
    ∀ s ∈ [atClient, { atClient with tie := false }, { atClient with clkRun := false }],
      { s with turns := [.tick] }.turns = [.tick] ∧
        (s.clkRun = true ∧ s.tie = true ∨ s.clkRun = true ∧ s.tie = false ∨ s.clkRun = false) := by decide

theorem witness_ResetFromAnyState :
    ∀ e ∈ [Turn.reset, .cycle true false .engine],
      { atClient with turns := [e] }.turns = [e] ∧ e.resets = true := by decide

theorem witness_SleepingForegroundIsHalted :
    { State.reset with turns := [quietFg] }.turns = [.fg (.ports Port.quiet)] ∧
      State.reset.powerState = .sleeping := by decide

theorem witness_OutputsAreFunctionsOfTheState :
    { atClient with answer := some ⟨.client, .done 0xF9#8⟩ }.answer = some ⟨.client, .done 0xF9#8⟩ ∧
    { atClient with answer := some ⟨.client, .refuse .reserved⟩ }.answer =
      some ⟨.client, .refuse .reserved⟩ ∧
    { atCtrl .cStop with answer := some ⟨.ctrl, .done 0x00#8⟩ }.answer = some ⟨.ctrl, .done 0x00#8⟩ ∧
    atClient.answer = none := by decide

theorem witness_InvariantHoldsAtReset :
    Params.reference.wellFormed = true ∧
    ∀ e ∈ [Turn.pin false, .tick, quietFg, .reset, .cycle false true .engine], e.hardware = true := by
  decide

/-- A client's wait in progress, with turns of every kind to come, meets the invariant. -/
def waitingClient : State :=
  { atClient with
    tc := 255, busy := true, curOp := 0x4#4, tRef := 255, presc := 3, sh := 0x07#8, client := ⟨.pace, 0, 2⟩
    turns := [.tick, .pin false, quietFg, .cycle false true .engine, .reset] }

theorem witness_EveryStepKeepsTheInvariant : Inv waitingClient ∧ ∃ t, step waitingClient = .next t := by
  refine ⟨?_, _, rfl⟩
  constructor <;> decide

theorem witness_InterruptsAreNeverBothEnabled :
    Params.reference.wellFormed = true ∧ (∀ e ∈ [Turn.pin false], e.hardware = true) ∧
      ∃ t, run 1 { State.reset with params := Params.reference, turns := [.pin false] } = .next t :=
  ⟨by decide, by decide, _, rfl⟩

theorem witness_ClientWritesOnlyWhatItMay :
    atClient.issuer = .client ∧ ∃ t, exec .clkStart atClient = .next t := ⟨by decide, _, rfl⟩

theorem witness_ForegroundWritesHistoryOnlyByReset :
    (∃ t, step { atClient with turns := [offerFg .read] } = .next t) ∧ atClient.isr = false ∧
    (fgMove (Port.offer (encode .read)) atClient).issues = some .read ∧
    ∃ t, step { atClient with turns := [.pin false] } = .next t :=
  ⟨⟨_, rfl⟩, rfl, rfl, _, rfl⟩

/-- Both directions of PowerStateChangesOnlyByItsTriggers happen. -/
theorem witness_PowerStateChangesOnlyByItsTriggers :
    (∃ t, step { State.reset with turns := [.pin false] } = .next t ∧ t.powerState = .active) ∧
    (∃ t, step { State.reset with turns := [.cycle false false .engine] } = .next t ∧
      t.powerState = .active) ∧
    (∃ t, step { atCtrl .cSleep with turns := [quietFg] } = .next t ∧ t.powerState = .sleeping) ∧
    (∃ t, step { atClient with turns := [.reset] } = .next t ∧ t.powerState = .sleeping) ∧
    ∃ t, step { atCtrl .cSleep with turns := [.word .ctrl 0xA0000#20] } = .next t ∧
      t.powerState = .sleeping :=
  ⟨⟨_, rfl, rfl⟩, ⟨_, rfl, rfl⟩, ⟨_, rfl, rfl⟩, ⟨_, rfl, rfl⟩, _, rfl, rfl⟩

theorem witness_BlockNeverSeesTheClientsState :
    { atClient with turns := [offerFg .read] }.nextTurn.otherClient = true ∧
      ∃ t, step { atClient with turns := [offerFg .read] } = .next t := ⟨by decide, _, rfl⟩

theorem witness_SampleRunLaw : (0 ≤ 8 ∧ 0 < 8) ∧ (8 ≤ 8 ∧ 7 < 8) := by decide

theorem witness_ServicedTicksCountAndSampleTogether :
    let s := { atClient with tc := 255, turns := List.replicate 2 Turn.tick ++ [Turn.reset] }
    s.clkRun = true ∧ s.tie = true ∧ s.tc < 2 ^ s.params.tickW ∧
      s.turns = List.replicate 2 Turn.tick ++ [Turn.reset] := by decide

/-- P4's section: a tick inside, the pin moving, a READ. -/
theorem witness_CriticalSectionFreezesHistoryAndCounter :
    let s := { atClient with tie := false, turns := [.tick, .pin false, offerFg .read, quietFg] }
    s.tie = false ∧ s.seq = .cFun ∧ s.powerState = .active ∧ s.isr = false ∧
      (∀ e ∈ s.turns, e.inSection = true) ∧ ∃ t, run 3 s = .next t :=
  ⟨rfl, rfl, rfl, rfl, by decide, _, rfl⟩

/-- L6, L7 and L1: the last target that does not wrap, the first that does, and `n = 0`. -/
theorem witness_DelayIsTooShortExactlyWhenItWraps :
    ∀ x ∈ [(0xFA, 5#8), (0xFA, 6#8), (0x00, 0#8)],
      let s := { atClient with tc := x.1, turns := [offerFg (.delay x.2), .fg .engine] }
      s.params.wellFormed = true ∧ s.tc < 2 ^ s.params.tickW ∧
        s.turns = offerFg (.delay x.2) :: .fg .engine :: [] ∧ s.powerState = .active ∧ s.seq = .cFun ∧
        s.busy = false ∧ s.isr = false ∧ (s.tc + x.2.toNat < 2 ^ s.params.tickW ↔ x.2 ≠ 6#8) := by decide

/-- X4 without and with the tick between, and the longest delay. -/
theorem witness_DelayAfterAClockResetTakesItsTicks :
    (atClient.powerState = .active ∧ atClient.seq = .cFun ∧ atClient.busy = false ∧ atClient.isr = false ∧
      atClient.tie = true ∧ atClient.wakeEn = false ∧ atClient.params.wellFormed = true) ∧
    (([] : List Bool).length ≤ 1 ∧ ([] : List Bool).length = (0#8).toNat ∧
      (0#8).toNat + 0 < 2 ^ atClient.params.tickW) ∧
    ([true].length ≤ 1 ∧ [false, false, true].length = (3#8).toNat ∧
      (3#8).toNat + 1 < 2 ^ atClient.params.tickW) ∧
    (List.replicate 255 true).length = (255#8).toNat ∧ (255#8).toNat + 0 < 2 ^ atClient.params.tickW := by
  exact ⟨by decide, by decide, by decide, List.length_replicate, by decide⟩

/-- W3, W4, W8, W10, and a wait in progress of the client and of each settling state that meets the rest. -/
theorem witness_WaitPatternReturnsWaitResult :
    waitResult 0x01#8 0xFF#8 0xFF#8 (List.replicate 7 true) = some (7, false) ∧
    waitResult 0x00#8 0xFF#8 0xFF#8 (List.replicate 8 true) = some (8, true) ∧
    waitResult 0x00#8 0x07#8 0x07#8 (List.replicate 9 false) = none ∧
    waitResult 0x80#8 0x03#8 0x03#8 [false, true, false, true, true] = some (5, true) ∧
    ∀ q ∈ [SeqState.cFun, .cSettleA, .cSettleB, .cSettleC],
      let s := { atCtrl q with
        clkRun := true, busy := true, curOp := 0x7#4, sh := 0x01#8, opA := 0xFF#8, opB := 0xFF#8
        turns := quietFg :: denseTurns (List.replicate 7 true) ++ [Turn.reset] }
      s.powerState = .active ∧ s.busy = true ∧ s.curOp = 0x7#4 ∧ s.sawZero = false ∧ s.isr = false ∧
        s.clkRun = true ∧ s.tie = true ∧ s.tc < 2 ^ s.params.tickW ∧ s.seq = q := by decide

/-- `DENSE_POLL` holds of the schedule of those two statements. -/
theorem test_denseTurns_polled : densePollFrom true (quietFg :: denseTurns [true, false, true]) = true := by
  decide

/-- The entry of step (c) at `F8`, as sessions S3 (7 samples) and S4 (8 samples) reach it. -/
theorem witness_CleanPressIsLongFromEightSamples :
    ∀ k ∈ [0, 4, 5],
      let s := { atCtrl .cSettleC with
        clkRun := true, sh := 0xF8#8
        turns := quietFg :: quietFg :: denseTurns (List.replicate k false ++ [true, true, true]) ++ [Turn.reset] }
      s.powerState = .active ∧ s.seq = .cSettleC ∧ s.busy = false ∧ s.isr = false ∧ s.clkRun = true ∧
        s.tie = true ∧ s.sh &&& 0x0F#8 = 0x08#8 := by decide

/-- X7, without and with a tick before the wait is entered. -/
theorem witness_SettlingStepAWaitsForFiveSamples :
    ∀ x ∈ [([], [true, true, true, true, true]), ([true], [true, true, true, true]), ([false], [true])],
      let s := { atCtrl .cReseed with
        turns := quietFg :: quietFg :: x.1.flatMap lineT ++
          (quietFg :: quietFg :: denseTurns x.2) ++ [Turn.reset] }
      s.powerState = .active ∧ s.seq = .cReseed ∧ s.busy = false ∧ s.isr = false ∧ s.tie = true ∧
        s.params.wellFormed = true ∧ x.1.length ≤ 1 ∧ x.1.length + 0 < 5 ∧
        (x.1.length + x.2.length = 5 ∧ (∀ b ∈ x.1 ++ x.2, b = true) ∨ x = ([false], [true])) := by decide

/-- K9, K10 and L13. -/
theorem witness_WaitOnAStoppedClockNeverEnds :
    ∀ s ∈ [{ atClient with clkRun := false, busy := true, curOp := 0x3#4, tc := 5, tRef := 5, turns := [.tick] },
        { atClient with tie := false, busy := true, curOp := 0x3#4, tc := 5, tRef := 5, turns := [.tick] },
        { atClient with
          clkRun := false, busy := true, curOp := 0x4#4, tc := 5, tRef := 8, turns := [.tick] }],
      ClockStall s ∧ ∃ t, step s = .next t := by
  intro s hs
  simp only [List.mem_cons, List.not_mem_nil, or_false] at hs
  obtain rfl | rfl | rfl := hs <;> exact ⟨by constructor <;> decide, _, rfl⟩

/-- W12, the same wait with the clock masked, and a settling wait on a stopped clock that sees `00`. -/
theorem witness_PatternWaitOnAStoppedClockNeverEnds :
    ∀ s ∈ [{ atClient with
          clkRun := false, busy := true, curOp := 0x7#4, sh := 0x3F#8, opA := 0xFF#8, opB := 0xFF#8
          turns := [.fg .engine] },
        { atClient with
          tie := false, busy := true, curOp := 0x7#4, sh := 0x3F#8, opA := 0xFF#8, opB := 0xFF#8
          turns := [.tick, quietFg] },
        { atCtrl .cSettleC with
          busy := true, curOp := 0x7#4, sh := 0x00#8, opA := 0x07#8, opB := 0x07#8, turns := [quietFg] }],
      PatternClockStall s ∧ ∃ t, step s = .next t := by
  intro s hs
  simp only [List.mem_cons, List.not_mem_nil, or_false] at hs
  obtain rfl | rfl | rfl := hs <;> exact ⟨by constructor <;> decide, _, rfl⟩

/-- W9. -/
theorem witness_UnsatisfiablePatternNeverEnds :
    let s := { atClient with
      busy := true, curOp := 0x7#4, sh := 0xAA#8, opA := 0x13#8, opB := 0x03#8, turns := [.tick, quietFg] }
    PatternStall s ∧ ∃ t, step s = .next t := ⟨by constructor <;> decide, _, rfl⟩

theorem witness_SplitSleepCanLoseTheWakeUp :
    (let s := atCtrl .cSleep
     s.powerState = .active ∧ s.busy = false ∧ s.isr = false ∧ s.seq ≠ .cFun ∧ s.clkRun = false ∧
       s.btnRaw = true ∧ ∀ e ∈ [Turn.pin true, .pin false, quietFg], e.resets = false) ∧
    let s := { State.reset with wakeEn := false, turns := [.pin true, .pin false] }
    LostWakeUp s ∧ ∃ t, step s = .next t := ⟨by decide, by constructor <;> decide, _, rfl⟩

/-- The four cases of the prescaler: it fires (and pends with `tie = 0`), counts, stands still, and does not
count in the cycle of a CLK_START. -/
theorem witness_ClockCycleIsAnInterleaving :
    atClient.btnPrev = atClient.btnRaw ∧ atClient.isr = false ∧
    (∃ t, step { atClient with presc := 3, turns := [.cycle false false .engine] } = .next t ∧
      t.tc = 1 ∧ t.presc = 0) ∧
    (∃ t, step { atClient with presc := 3, tie := false, turns := [.cycle false false .engine] } = .next t ∧
      t.tc = 0 ∧ t.tickPend = true ∧ t.presc = 0) ∧
    (∃ t, step { atClient with presc := 2, turns := [.cycle false false .engine] } = .next t ∧
      t.tc = 0 ∧ t.presc = 3) ∧
    (∃ t, step { atClient with clkRun := false, presc := 3, turns := [.cycle false false .engine] } = .next t ∧
      t.presc = 3) ∧
    ∃ t, step { atClient with
      presc := 3, turns := [.cycle false false (.ports (Port.offer 0x10000#20))] } = .next t ∧ t.presc = 0 :=
  ⟨rfl, rfl, ⟨_, rfl, rfl, rfl⟩, ⟨_, rfl, rfl, rfl, rfl⟩, ⟨_, rfl, rfl, rfl⟩, ⟨_, rfl, rfl⟩, _, rfl, rfl⟩

theorem witness_TickComesInTheLastOfTickDivCycles :
    let s := { atClient with
      busy := true, curOp := 0x3#4, turns := List.replicate 4 (Turn.cycle false true .engine) ++ [Turn.reset] }
    s.powerState = .active ∧ s.busy = true ∧ s.curOp = 0x3#4 ∧ s.tRef = s.tc ∧ s.clkRun = true ∧
      s.tie = true ∧ s.presc = 0 ∧ s.params.wellFormed = true ∧
      s.turns = List.replicate s.params.tickDiv (Turn.cycle false true .engine) ++ [Turn.reset] := by decide

theorem witness_PhaseReturnsAfterItsPeriod :
    2 < period Params.reference 0 ∧ period { Params.reference with patterns := [[0x000#11]] } 0 = 1 := by
  decide

theorem witness_ReferenceClientRunsItsSequence :
    (∀ pc ∈ [ClientPc.waitIdleIn, .waitIdleOut, .align, .pace, .draw, .test, .finished],
      let s := { atClient with client := ⟨pc, 0, 0⟩, turns := [.fg .engine] }
      s.turns = [.fg .engine] ∧ s.powerState = .active ∧ s.busy = false ∧ s.seq = .cFun ∧ s.isr = false ∧
        s.client.pc = pc) ∧
    ∀ pc ∈ [ClientPc.waitIdleIn, .waitIdleOut], ∀ i ∈ [0, 1],
      let s := { atClient with
        params := { Params.reference with patterns := [[0x001#11], [0x002#11]] }
        client := ⟨pc, i, 0⟩, busy := true, curOp := 0x7#4, opA := 0xFF#8, opB := 0xFF#8, sh := 0xFF#8
        turns := [.fg .engine] }
      s.turns = [.fg .engine] ∧ s.powerState = .active ∧ s.busy = true ∧ s.seq = .cFun ∧ s.isr = false ∧
        (i + 1 < npat s.params ↔ i = 0) := by decide

theorem witness_ReferenceClient_wait_ends :
    ∃ t, step { atClient with
      client := ⟨.align, 0, 0⟩, busy := true, curOp := 0x3#4, tc := 1, turns := [.fg .engine] } = .next t ∧
      t.busy = false := ⟨_, rfl, rfl⟩

end Sys2Proof.Tests
end

section
/-! PROOFS. Frames shared by the obligations: what an operation, a move of the foreground and a turn leave as it
is, and the induction over a run, each said once. -/

namespace Sys2Proof.Machine

/-! ### Operations -/

/-- Every meaning is an admission whose effect writes `wake_en` only in ARM_WAKE, `PowerState` only in SLEEP and
`clk_run` only in CLK_START and CLK_STOP. -/
theorem exec_eq_checkIssuer_power (i : Instr) (s : State) :
    ∃ k : State → State, exec i s = checkIssuer i s k ∧
      (i ≠ .armWake → (k s).wakeEn = s.wakeEn) ∧
      (i ≠ .sleep → (k s).powerState = s.powerState) ∧
      (i ≠ .clkStart → i ≠ .clkStop → (k s).clkRun = s.clkRun) := by
  cases i
  all_goals
    simp only [exec, execClkStart, execClkStop, execWaitTick, execDelay, execRead, execHasPattern,
      execWaitPattern, execReset, execArmWake, execSleep, execLedsOff, execLedSet, execTickMask,
      execTickUnmask, execSample]
    refine ⟨_, rfl, ?_⟩
  case armWake => exact ⟨fun h => absurd rfl h, fun _ => rfl, fun _ _ => rfl⟩
  case clkStart => exact ⟨fun _ => rfl, fun _ => rfl, fun h => absurd rfl h⟩
  case clkStop => exact ⟨fun _ => rfl, fun _ => rfl, fun _ h => absurd rfl h⟩
  case sleep =>
    split
    · exact ⟨fun _ => rfl, fun _ => rfl, fun _ _ => rfl⟩
    · exact ⟨fun _ => rfl, fun h => absurd rfl h, fun _ _ => rfl⟩
  case tickUnmask =>
    split <;> exact ⟨fun _ => rfl, fun _ => rfl, fun _ _ => rfl⟩
  all_goals exact ⟨fun _ => rfl, fun _ => rfl, fun _ _ => rfl⟩

/-- Only ARM_WAKE writes `wake_en` (R16, R120). -/
theorem exec_wakeEn {i : Instr} {s t : State} (h : exec i s = .next t) (hi : i ≠ .armWake) :
    t.wakeEn = s.wakeEn := by
  obtain ⟨k, hk, hwake, -, -⟩ := exec_eq_checkIssuer_power i s
  obtain ⟨-, rfl⟩ | ⟨-, rfl⟩ := checkIssuer_cases (hk ▸ h)
  · rfl
  · exact hwake hi

/-- Only SLEEP writes `PowerState` (R12, R121). -/
theorem exec_powerState {i : Instr} {s t : State} (h : exec i s = .next t) (hi : i ≠ .sleep) :
    t.powerState = s.powerState := by
  obtain ⟨k, hk, -, hpower, -⟩ := exec_eq_checkIssuer_power i s
  obtain ⟨-, rfl⟩ | ⟨-, rfl⟩ := checkIssuer_cases (hk ▸ h)
  · rfl
  · exact hpower hi

/-- Only CLK_START and CLK_STOP write `clk_run` (R13, R82, R83). -/
theorem exec_clkRun {i : Instr} {s t : State} (h : exec i s = .next t) (hstart : i ≠ .clkStart)
    (hstop : i ≠ .clkStop) : t.clkRun = s.clkRun := by
  obtain ⟨k, hk, -, -, hclk⟩ := exec_eq_checkIssuer_power i s
  obtain ⟨-, rfl⟩ | ⟨-, rfl⟩ := checkIssuer_cases (hk ▸ h)
  · rfl
  · exact hclk hstart hstop

/-- CLK_STOP, admitted, stops the clock (R83). -/
theorem exec_clkStop_clkRun {s t : State} (hm : mayIssue s.issuer .clkStop = true)
    (h : exec .clkStop s = .next t) : t.clkRun = false := by
  have heffect : execClkStop s = .next t := h
  unfold execClkStop at heffect
  rw [checkIssuer_ok hm] at heffect
  cases heffect
  rfl

/-- An operation its issuer may not issue is refused with code 2 (R65, R181). -/
theorem exec_refused {i : Instr} {s t : State} (hm : mayIssue s.issuer i = false)
    (h : exec i s = .next t) : t = s.refuse .issuer := by
  obtain ⟨k, hk, -⟩ := exec_eq_checkIssuer i s
  rw [hk, checkIssuer_refused hm] at h
  cases h
  rfl

/-- In `C_FUN` no operation arms the wake interrupt or begins the sleep: they are the controller's alone
(R180, R181). -/
theorem exec_power_of_cFun {i : Instr} {s t : State} (hs : s.seq = .cFun) (h : exec i s = .next t) :
    t.powerState = s.powerState ∧ t.wakeEn = s.wakeEn := by
  have hx : s.issuer ≠ .ctrl := by
    cases hi : s.isr with
    | true => simp [issuer_isr hi]
    | false => simp [issuer_client hi hs]
  by_cases hi : i = .armWake ∨ i = .sleep
  · have hm : mayIssue s.issuer i = false := by
      obtain rfl | rfl := hi <;> simpa [mayIssue] using hx
    rw [exec_refused hm h]
    exact ⟨rfl, rfl⟩
  · obtain ⟨harm, hsleep⟩ := not_or.mp hi
    exact ⟨exec_powerState h hsleep, exec_wakeEn h harm⟩

/-- A word issued is an operation executed or a refusal that changes nothing else (R65). -/
theorem issueWord_cases {w : OpWord} {s t : State} (h : issueWord w s = .next t) :
    (∃ i, decode w = .ok i ∧ exec i s = .next t) ∨
    (∃ c, decode w = .error c ∧ t = s.refuse .reserved) := by
  unfold issueWord at h
  split at h
  · next i hi => exact .inl ⟨i, hi, h⟩
  · next c hc => cases h; exact .inr ⟨c, hc, rfl⟩

/-- No word writes what no operation writes. -/
theorem issueWord_surroundings {w : OpWord} {s t : State} (h : issueWord w s = .next t) :
    SameSurroundings s t := by
  obtain ⟨i, -, hi⟩ | ⟨c, -, rfl⟩ := issueWord_cases h
  · exact exec_surroundings hi
  · constructor <;> rfl

/-! ### Which move of the foreground is enabled, read backwards -/

/-- Where the machine is when a foreground move is the enabled one (R44, R130 to R141, R151). -/
def MoveBelongs (s : State) : FgMove → Prop
  | .halted      => s.powerState = .sleeping
  | .poll        => s.powerState = .active ∧ s.busy = true
  | .ctrl i n    => s.powerState = .active ∧ s.busy = false ∧
    ((s.seq = .cStop ∧ i = .clkStop ∧ n = .cLedoff) ∨
     (s.seq = .cLedoff ∧ i = .ledsOff ∧ n = .cSleep) ∨
     (s.seq = .cReseed ∧ i = .reset Config.seed ∧ n = .cStart) ∨
     (s.seq = .cStart ∧ i = .clkStart ∧ n = .cSettleA) ∨
     ∃ e m, s.seq.settleWait = some (e, m) ∧ i = .waitPattern e m ∧ n = s.seq)
  | .armAndSleep => s.powerState = .active ∧ s.busy = false ∧ s.seq = .cSleep
  | .resume      => s.powerState = .active ∧ s.busy = false ∧ s.seq = .cAsleep
  | .dispatch    => s.powerState = .active ∧ s.busy = false ∧ s.seq = .cDispatch
  | .handBack    => s.powerState = .active ∧ s.busy = false ∧ s.seq = .cFun
  | .accept _    => s.powerState = .active ∧ s.busy = false ∧ s.seq = .cFun
  | .quiet       => s.powerState = .active ∧ s.busy = false ∧ s.seq = .cFun
  | .stuck       => s.powerState = .active ∧ s.busy = false ∧ ∃ k, s.seq = .unused k

/-- The enabled move belongs where the machine is. -/
theorem fgMove_belongs (p : Port) (s : State) : MoveBelongs s (fgMove p s) := by
  unfold fgMove
  cases hp : s.powerState with
  | sleeping => exact hp
  | active =>
    cases hb : s.busy with
    | true => exact ⟨hp, hb⟩
    | false =>
      cases hq : s.seq with
      | cFun =>
        simp only [Bool.false_eq_true, if_false]
        split
        · exact ⟨hp, hb, hq⟩
        · split <;> exact ⟨hp, hb, hq⟩
      | _ => simp [MoveBelongs, SeqState.settleWait, hp, hb, hq]

/-! ### What a turn leaves to the next: the power state, the two enables and the turns to come -/

/-- Two states agree on what decides whether an interrupt can come, `seq` aside (R12, R13, R16), on the
handler's flag and on the turns to come. -/
structure SamePower (s t : State) : Prop where
  powerState : t.powerState = s.powerState
  wakeEn : t.wakeEn = s.wakeEn
  clkRun : t.clkRun = s.clkRun
  isr : t.isr = s.isr
  turns : t.turns = s.turns

theorem SamePower.refl (s : State) : SamePower s s := ⟨rfl, rfl, rfl, rfl, rfl⟩

theorem SamePower.trans {s t u : State} (h : SamePower s t) (h' : SamePower t u) : SamePower s u :=
  ⟨h'.powerState.trans h.powerState, h'.wakeEn.trans h.wakeEn, h'.clkRun.trans h.clkRun,
    h'.isr.trans h.isr, h'.turns.trans h.turns⟩

/-- A firing tick, serviced or deferred, samples and counts; it changes neither enable nor `seq` (R168). -/
theorem fireTick_samePower (s : State) : SamePower s (fireTick s) ∧ (fireTick s).seq = s.seq := by
  unfold fireTick
  split <;> exact ⟨⟨rfl, rfl, rfl, rfl, rfl⟩, rfl⟩

/-- A TICK step is a firing tick or nothing (R43). -/
theorem tickStep_samePower (s : State) : SamePower s (tickStep s) ∧ (tickStep s).seq = s.seq := by
  cases hc : s.clkRun with
  | false => rw [tickStep_stopped hc]; exact ⟨.refl s, rfl⟩
  | true => rw [tickStep_running hc]; exact fireTick_samePower s

/-- The prescaler's part of a clock cycle is a firing tick or a count (R212 item 3). -/
theorem countTick_samePower (s : State) : SamePower s (countTick s) ∧ (countTick s).seq = s.seq := by
  obtain ⟨-, hu⟩ | ⟨-, -, hu⟩ | ⟨-, -, hu⟩ := countTick_cases s
  · rw [hu]; exact ⟨.refl s, rfl⟩
  · rw [hu]
    obtain ⟨hfire, hseq⟩ := fireTick_samePower { s with presc := 0 }
    exact ⟨⟨hfire.powerState, hfire.wakeEn, hfire.clkRun, hfire.isr, hfire.turns⟩, hseq⟩
  · rw [hu]; exact ⟨⟨rfl, rfl, rfl, rfl, rfl⟩, rfl⟩

/-- A clock edge sees the wake edge or the new pin level alone (R23, R212 item 1). -/
theorem edgeStep_cases (s : State) (b : Bool) :
    (s.btnPrev = true ∧ b = false ∧ s.wakeEn = true ∧ edgeStep s b = wakeHandler (s.setPin b)) ∨
    (¬(s.btnPrev = true ∧ b = false ∧ s.wakeEn = true) ∧ edgeStep s b = s.setPin b) := by
  by_cases h : s.btnPrev = true ∧ b = false ∧ s.wakeEn = true
  · obtain ⟨hprev, hb, hw⟩ := h
    exact .inl ⟨hprev, hb, hw, by simp [edgeStep, hprev, hb, hw]⟩
  · exact .inr ⟨h, by simp only [edgeStep, if_neg h]⟩

/-- The end of a settling wait changes `seq` and `long` alone, and goes to a state in which the clock runs
(R136 to R138). -/
theorem settleAdvance_samePower (s : State) : SamePower s (settleAdvance s) ∧
    ((settleAdvance s).seq = s.seq ∨ (settleAdvance s).seq.clockOff = false) := by
  unfold settleAdvance
  split
  · exact ⟨⟨rfl, rfl, rfl, rfl, rfl⟩, .inr rfl⟩
  · exact ⟨⟨rfl, rfl, rfl, rfl, rfl⟩, .inr rfl⟩
  · exact ⟨⟨rfl, rfl, rfl, rfl, rfl⟩, .inr rfl⟩
  all_goals exact ⟨.refl s, .inl rfl⟩

theorem pollWaitTick_samePower (s : State) :
    SamePower s (pollWaitTick s) ∧ (pollWaitTick s).seq = s.seq := by
  unfold pollWaitTick
  split <;> exact ⟨⟨rfl, rfl, rfl, rfl, rfl⟩, rfl⟩

theorem pollDelay_samePower (s : State) : SamePower s (pollDelay s) ∧ (pollDelay s).seq = s.seq := by
  unfold pollDelay
  split <;> exact ⟨⟨rfl, rfl, rfl, rfl, rfl⟩, rfl⟩

theorem pollWaitPattern_samePower (s : State) :
    SamePower s (pollWaitPattern s) ∧ (pollWaitPattern s).seq = s.seq := by
  unfold pollWaitPattern
  dsimp only
  split <;> exact ⟨⟨rfl, rfl, rfl, rfl, rfl⟩, rfl⟩

/-- A poll step leaves the enables as they are; `seq` stays or goes to a state in which the clock runs
(R46). -/
theorem pollStep_samePower (s : State) : SamePower s (pollStep s) ∧
    ((pollStep s).seq = s.seq ∨ (pollStep s).seq.clockOff = false) := by
  unfold pollStep
  split
  · exact ⟨(pollWaitTick_samePower s).1, .inl (pollWaitTick_samePower s).2⟩
  · exact ⟨(pollDelay_samePower s).1, .inl (pollDelay_samePower s).2⟩
  · obtain ⟨hpoll, hseq⟩ := pollWaitPattern_samePower s
    obtain ⟨hadv, hadvSeq⟩ := settleAdvance_samePower (pollWaitPattern s)
    dsimp only
    split
    · exact ⟨hpoll, .inl hseq⟩
    · exact ⟨hpoll.trans hadv, hseq ▸ hadvSeq⟩
  · exact ⟨.refl s, .inl rfl⟩

/-- The reference client's assignments are none of the block's (R150, R152; log 19). -/
theorem clientAfter_samePower (d : Drive) (s t : State) :
    SamePower t (clientAfter d s t) ∧ (clientAfter d s t).seq = t.seq := by
  have h : ∃ c, clientAfter d s t = { t with client := c } := by
    unfold clientAfter
    split
    · exact ⟨_, rfl⟩
    · split
      · exact ⟨_, rfl⟩
      · split <;> exact ⟨_, rfl⟩
  obtain ⟨c, hc⟩ := h
  rw [hc]
  exact ⟨⟨rfl, rfl, rfl, rfl, rfl⟩, rfl⟩

/-! ### No turn writes the turns to come -/

theorem runMove_turns {m : FgMove} {s t : State} (h : runMove m s = .next t) : t.turns = s.turns := by
  cases m with
  | poll => cases h; exact (pollStep_samePower s).1.turns
  | ctrl i n =>
    obtain ⟨u, hu, rfl⟩ := mapNext_eq_next h
    exact (exec_surroundings hu).turns
  | accept w => exact (issueWord_surroundings h).turns
  | _ => cases h; rfl

theorem fgStep_turns {d : Drive} {s t : State} (h : fgStep d s = .next t) : t.turns = s.turns := by
  obtain ⟨u, hu, rfl⟩ := mapNext_eq_next h
  exact (clientAfter_samePower d s u).1.turns.trans (runMove_turns hu)

theorem clockEdge_turns {b : Bool} {d : Drive} {s t : State} (h : clockEdge b d s = .next t) :
    t.turns = s.turns := by
  have hedge : (edgeStep s b).turns = s.turns := by
    obtain ⟨-, -, -, hu⟩ | ⟨-, hu⟩ := edgeStep_cases s b <;> simp [hu]
  unfold clockEdge at h
  dsimp only at h
  split at h
  · cases h
    exact (countTick_samePower _).1.turns.trans hedge
  · obtain ⟨u, hu, rfl⟩ := mapNext_eq_next h
    have hfg := (fgStep_turns hu).trans hedge
    split
    · exact hfg
    · exact (countTick_samePower u).1.turns.trans hfg

theorem wordStep_turns {x : Issuer} {w : OpWord} {s t : State} (h : wordStep x w s = .next t) :
    t.turns = s.turns := by
  unfold wordStep at h
  split at h
  · obtain ⟨u, hu, rfl⟩ := mapNext_eq_next h
    exact (issueWord_surroundings hu).turns
  all_goals
    split at h
    · exact (issueWord_surroundings h).turns
    · cases h; rfl

/-- A step takes the first turn and leaves the others to come (R41). -/
theorem step_turns {s t : State} (h : step s = .next t) : t.turns = s.turns.tail := by
  rw [← begin_turns s]
  unfold step at h
  cases he : s.nextTurn <;> rw [he] at h
  case pin b =>
    cases h
    obtain ⟨-, -, -, hu⟩ | ⟨-, hu⟩ := pinStep_cases s.begin b <;> simp [hu]
  case tick => cases h; exact (tickStep_samePower _).1.turns
  case fg d => exact fgStep_turns h
  case reset => cases h; rfl
  case cycle rst b d =>
    cases rst with
    | true => cases h; rfl
    | false => exact clockEdge_turns h
  case word x w => exact wordStep_turns h

/-! ### The hardware's schedule and the induction over a run -/

/-- With only the hardware's turns to come, the next turn is one: with none scheduled it is the foreground's
(log 2). -/
theorem nextTurn_hardware {s : State} (h : ∀ e ∈ s.turns, e.hardware = true) :
    s.nextTurn.hardware = true := by
  unfold State.nextTurn
  cases hs : s.turns with
  | nil => rfl
  | cons e es => exact h e (by simp [hs])

/-- A step leaves a hardware schedule one. -/
theorem step_hardware {s t : State} (hs : step s = .next t) (h : ∀ e ∈ s.turns, e.hardware = true) :
    ∀ e ∈ t.turns, e.hardware = true :=
  fun e he => h e (List.mem_of_mem_tail (step_turns hs ▸ he))

/-- What every step keeps, every run keeps. -/
theorem run_keeps {P : State → Prop} (hstep : ∀ s t, P s → step s = .next t → P t) {n : Nat}
    {s t : State} (hs : P s) (h : run n s = .next t) : P t := by
  induction n generalizing s with
  | zero => cases h; exact hs
  | succ n ih =>
    cases hu : step s with
    | next u => exact ih (hstep s u hs hu) (run_succ hu ▸ h)
    | fault r => cases r
    | refused r => simp [run, hu] at h

end Sys2Proof.Machine
end

section
/-! PROOFS. The statements of 10_state.md: the values of reset (R35), and the two interrupts that are never both
enabled (R25). The second needs more than it says: the invariant `PowerOrder` adds where the controller is. -/

namespace Sys2Proof.Machine

/-- What keeps the two interrupts apart: the wake interrupt is armed only asleep (R133), asleep the controller is
at `C_ASLEEP` (R186), and from C_STOP's step to CLK_START the clock is stopped (R130). That no handler runs
between steps (R176) is what makes the controller's own operations admitted. -/
structure PowerOrder (s : State) : Prop where
  no_handler : s.isr = false
  armed_asleep : s.wakeEn = true → s.powerState = .sleeping
  asleep : s.powerState = .sleeping → s.seq = .cAsleep
  clock_off : s.seq.clockOff = true → s.clkRun = false

namespace PowerOrder

/-- R25: armed is asleep, asleep is at `C_ASLEEP`, and there the clock is stopped. -/
theorem not_both_enabled {s : State} (h : PowerOrder s) : ¬(s.wakeEn = true ∧ s.clkRun = true) := by
  rintro ⟨hwake, hclk⟩
  have hseq : s.seq = .cAsleep := h.asleep (h.armed_asleep hwake)
  have hoff : s.clkRun = false := h.clock_off (by rw [hseq]; rfl)
  rw [hoff] at hclk
  cases hclk

/-- Awake, the wake interrupt is disarmed (R133). -/
theorem disarmed {s : State} (h : PowerOrder s) (hp : s.powerState = .active) : s.wakeEn = false := by
  cases hw : s.wakeEn with
  | false => rfl
  | true => rw [h.armed_asleep hw] at hp; cases hp

/-- Awake and disarmed, the clock's clause is what is left. -/
theorem of_awake {s : State} (hisr : s.isr = false) (hp : s.powerState = .active)
    (hw : s.wakeEn = false) (hclk : s.seq.clockOff = true → s.clkRun = false) : PowerOrder s where
  no_handler := hisr
  armed_asleep h := by rw [hw] at h; cases h
  asleep h := by rw [hp] at h; cases h
  clock_off := hclk

/-- A step that changes neither the enables nor `seq` keeps the order. -/
theorem of_samePower {s t : State} (h : PowerOrder s) (hst : SamePower s t) (hq : t.seq = s.seq) :
    PowerOrder t where
  no_handler := hst.isr.trans h.no_handler
  armed_asleep hw := hst.powerState.trans (h.armed_asleep (hst.wakeEn ▸ hw))
  asleep hp := hq.trans (h.asleep (hst.powerState ▸ hp))
  clock_off hc := hst.clkRun.trans (h.clock_off (hq ▸ hc))

/-- So does an awake one that goes on to a state in which the clock need not be stopped. -/
theorem of_samePower_clockOn {s t : State} (h : PowerOrder s) (hp : s.powerState = .active)
    (hst : SamePower s t) (hq : t.seq.clockOff = false) : PowerOrder t :=
  of_awake (hst.isr.trans h.no_handler) (hst.powerState.trans hp) (hst.wakeEn.trans (h.disarmed hp))
    fun hc => by rw [hq] at hc; cases hc

/-- The order holds after reset, whatever the parameters and the schedule (R35). -/
theorem reset (p : Params) (ts : List Turn) :
    PowerOrder { State.reset with params := p, turns := ts } where
  no_handler := rfl
  armed_asleep _ := rfl
  asleep _ := rfl
  clock_off _ := rfl

/-- A reset turn brings the order about from any state (R190). -/
theorem resetStep (s : State) : PowerOrder (Machine.resetStep s) where
  no_handler := rfl
  armed_asleep _ := rfl
  asleep _ := rfl
  clock_off _ := rfl

theorem begin {s : State} (h : PowerOrder s) : PowerOrder s.begin :=
  ⟨h.no_handler, h.armed_asleep, h.asleep, h.clock_off⟩

/-- The wake handler wakes and disarms in one step (R171). -/
theorem wakeHandler {s : State} (h : PowerOrder s) : PowerOrder (Machine.wakeHandler s) :=
  of_awake h.no_handler rfl rfl h.clock_off

theorem setPin {s : State} (h : PowerOrder s) (b : Bool) : PowerOrder (s.setPin b) :=
  h.of_samePower ⟨rfl, rfl, rfl, rfl, rfl⟩ rfl

theorem pinStep {s : State} (h : PowerOrder s) (b : Bool) : PowerOrder (Machine.pinStep s b) := by
  obtain ⟨-, -, -, hu⟩ | ⟨-, hu⟩ := pinStep_cases s b
  · rw [hu]; exact (h.setPin b).wakeHandler
  · rw [hu]; exact h.setPin b

theorem edgeStep {s : State} (h : PowerOrder s) (b : Bool) : PowerOrder (Machine.edgeStep s b) := by
  obtain ⟨-, -, -, hu⟩ | ⟨-, hu⟩ := edgeStep_cases s b
  · rw [hu]; exact (h.setPin b).wakeHandler
  · rw [hu]; exact h.setPin b

theorem countTick {s : State} (h : PowerOrder s) : PowerOrder (Machine.countTick s) :=
  h.of_samePower (countTick_samePower s).1 (countTick_samePower s).2

theorem pollStep {s : State} (h : PowerOrder s) (hp : s.powerState = .active) :
    PowerOrder (Machine.pollStep s) := by
  obtain ⟨hsame, hseq | hseq⟩ := pollStep_samePower s
  · exact h.of_samePower hsame hseq
  · exact h.of_samePower_clockOn hp hsame hseq

/-- The controller's operations: CLK_STOP stops the clock on the way into the stopped part of the sequence,
CLK_START leaves that part, and the others write neither enable (R131 to R138). -/
theorem ctrl {s u : State} (h : PowerOrder s) {i : Instr} {n : SeqState}
    (hm : MoveBelongs s (.ctrl i n)) (hu : exec i s = .next u) : PowerOrder { u with seq := n } := by
  obtain ⟨hp, -, hmoves⟩ := hm
  have hsleep : i ≠ .sleep := by rintro rfl; simp at hmoves
  have harm : i ≠ .armWake := by rintro rfl; simp at hmoves
  have hpower : u.powerState = .active := (exec_powerState hu hsleep).trans hp
  have hwake : u.wakeEn = false := (exec_wakeEn hu harm).trans (h.disarmed hp)
  refine of_awake ((exec_surroundings hu).isr.trans h.no_handler) hpower hwake ?_
  obtain ⟨hq, rfl, rfl⟩ | ⟨hq, rfl, rfl⟩ | ⟨hq, rfl, rfl⟩ | ⟨hq, rfl, rfl⟩ | ⟨e, m, -, rfl, rfl⟩ := hmoves
  · intro _
    have hadm : mayIssue s.issuer .clkStop = true := by
      rw [issuer_ctrl h.no_handler (by simp [hq])]; rfl
    exact exec_clkStop_clkRun (t := u) hadm hu
  · exact fun _ => (exec_clkRun hu (by simp) (by simp)).trans (h.clock_off (by rw [hq]; rfl))
  · exact fun _ => (exec_clkRun hu (by simp) (by simp)).trans (h.clock_off (by rw [hq]; rfl))
  · exact fun hc => by cases hc
  · exact fun hc => (exec_clkRun hu (by simp) (by simp)).trans (h.clock_off hc)

/-- A client's word writes neither `PowerState` nor `wake_en`, and in `C_FUN` the clock may run or not
(R180). -/
theorem issueWord {s t : State} (h : PowerOrder s) (hp : s.powerState = .active) (hq : s.seq = .cFun)
    {w : OpWord} (hw : Machine.issueWord w s = .next t) : PowerOrder t := by
  obtain ⟨i, -, hi⟩ | ⟨c, -, rfl⟩ := issueWord_cases hw
  · obtain ⟨hpower, hwake⟩ := exec_power_of_cFun hq hi
    have hsurr := exec_surroundings hi
    exact of_awake (hsurr.isr.trans h.no_handler) (hpower.trans hp) (hwake.trans (h.disarmed hp))
      fun hc => by rw [hsurr.seq, hq] at hc; cases hc
  · exact h.of_samePower ⟨rfl, rfl, rfl, rfl, rfl⟩ rfl

/-- The enabled move of the foreground keeps the order (R44, R130 to R141, R151). -/
theorem runMove {s t : State} (h : PowerOrder s) {m : FgMove} (hm : MoveBelongs s m)
    (ht : Machine.runMove m s = .next t) : PowerOrder t := by
  cases m with
  | halted => cases ht; exact h
  | poll =>
    obtain ⟨hp, -⟩ := hm
    cases ht
    exact h.pollStep hp
  | ctrl i n =>
    obtain ⟨u, hu, rfl⟩ := mapNext_eq_next ht
    exact h.ctrl hm hu
  | armAndSleep =>
    obtain ⟨-, -, hq⟩ := hm
    cases ht
    exact ⟨h.no_handler, fun _ => rfl, fun _ => rfl, fun _ => h.clock_off (by rw [hq]; rfl)⟩
  | resume =>
    obtain ⟨hp, -, hq⟩ := hm
    cases ht
    exact of_awake h.no_handler hp (h.disarmed hp) fun _ => h.clock_off (by rw [hq]; rfl)
  | dispatch =>
    obtain ⟨hp, -⟩ := hm
    cases ht
    refine h.of_samePower_clockOn hp ⟨rfl, rfl, rfl, rfl, rfl⟩ ?_
    rw [dispatch_seq]
    split <;> rfl
  | handBack =>
    obtain ⟨hp, -⟩ := hm
    cases ht
    exact h.of_samePower_clockOn hp ⟨rfl, rfl, rfl, rfl, rfl⟩ rfl
  | accept w =>
    obtain ⟨hp, -, hq⟩ := hm
    exact h.issueWord hp hq ht
  | quiet => cases ht; exact h
  | stuck => cases ht; exact h

theorem fgStep {s t : State} (h : PowerOrder s) {d : Drive} (ht : Machine.fgStep d s = .next t) :
    PowerOrder t := by
  obtain ⟨u, hu, rfl⟩ := mapNext_eq_next ht
  obtain ⟨hsame, hseq⟩ := clientAfter_samePower d s u
  exact (h.runMove (fgMove_belongs _ s) hu).of_samePower hsame hseq

/-- A clock edge is the edge detector, the foreground if the block was awake, and the prescaler (R212). -/
theorem clockEdge {s t : State} (h : PowerOrder s) {b : Bool} {d : Drive}
    (ht : Machine.clockEdge b d s = .next t) : PowerOrder t := by
  unfold Machine.clockEdge at ht
  dsimp only at ht
  split at ht
  · cases ht
    exact (h.edgeStep b).countTick
  · obtain ⟨u, hu, rfl⟩ := mapNext_eq_next ht
    have hfg : PowerOrder u := (h.edgeStep b).fgStep hu
    split
    · exact hfg
    · exact hfg.countTick

/-- Every turn of the hardware keeps the order; the word turn is not one of them (log 18). -/
theorem runTurn {s t : State} (h : PowerOrder s) {e : Turn} (he : e.hardware = true)
    (ht : Machine.runTurn e s = .next t) : PowerOrder t := by
  cases e with
  | pin b => cases ht; exact h.pinStep b
  | tick => cases ht; exact h.of_samePower (tickStep_samePower s).1 (tickStep_samePower s).2
  | fg d => exact h.fgStep ht
  | reset => cases ht; exact resetStep s
  | cycle rst b d =>
    cases rst with
    | true => cases ht; exact resetStep _
    | false => exact h.clockEdge ht
  | word x w => cases he

end PowerOrder

/-- The order, with only the hardware's turns to come: what a run from reset keeps. -/
structure HardwareOrder (s : State) : Prop where
  hardware : ∀ e ∈ s.turns, e.hardware = true
  order : PowerOrder s

/-- Every step keeps the order under a schedule of the hardware. -/
theorem step_hardwareOrder (s t : State) (h : HardwareOrder s) (hs : step s = .next t) : HardwareOrder t where
  hardware := step_hardware hs h.hardware
  order := h.order.begin.runTurn (nextTurn_hardware h.hardware) hs

end Sys2Proof.Machine

namespace Sys2Proof.Proofs

open Sys2Proof.Machine

/-- Settles O37, by the invariant `HardwareOrder`: it holds at reset, every step keeps it, and it keeps the two
enables apart. -/
theorem interruptsAreNeverBothEnabled : Obligations.InterruptsAreNeverBothEnabled := by
  intro p ts n t _ hts hrun
  have hreset : HardwareOrder { State.reset with params := p, turns := ts } := ⟨hts, .reset p ts⟩
  exact (run_keeps step_hardwareOrder hreset hrun).order.not_both_enabled

/-- Settles O31: `State.reset` is one closed state, and each given value is read off it. -/
theorem resetStateHoldsTheGivenValues : Obligations.ResetStateHoldsTheGivenValues := by
  unfold Obligations.ResetStateHoldsTheGivenValues
  refine ⟨rfl, rfl, rfl, rfl, rfl, rfl, rfl, rfl, rfl, rfl, rfl, rfl, rfl, rfl, rfl, rfl, rfl, rfl⟩

end Sys2Proof.Proofs
end

section
/-! PROOFS. The statements of 30_encoding.md: the decoder seen format by format, the words it refuses (R64), and
that it reads back every word the encoder writes (R61 to R63). -/

namespace Sys2Proof

/-! ### The format of an opcode -/

/-- The format of the row of R63 that an opcode selects; the opcode of no row has none. -/
def opcodeFormat (op : Opcode) : Option Format :=
  (tableRows.find? fun r => opField r.word == op).map (·.format)

theorem opcodeFormat_eq_none_iff : ∀ op : Opcode, opcodeFormat op = none ↔ op = 0x0#4 := by decide

theorem opcodeFormat_eq_z_iff : ∀ op : Opcode, opcodeFormat op = some .z ↔
    op ∈ [0x1#4, 0x2#4, 0x3#4, 0x5#4, 0x9#4, 0xA#4, 0xB#4, 0xD#4, 0xE#4, 0xF#4] := by decide

theorem opcodeFormat_eq_a1_iff : ∀ op : Opcode, opcodeFormat op = some .a1 ↔ op ∈ [0x4#4, 0x8#4] := by decide

theorem opcodeFormat_eq_l_iff : ∀ op : Opcode, opcodeFormat op = some .l ↔ op = 0xC#4 := by decide

/-! ### Which words the decoder refuses -/

theorem decodeZ_eq_error_iff {w : OpWord} {i : Instr} {c : Reserved} :
    decodeZ w i = .error c ↔ c = .formatZ ∧ (aField w ≠ 0#8 ∨ bField w ≠ 0#8) := by
  unfold decodeZ
  split
  · next h => simp [h]
  · next h => simpa [← not_and_or, h] using eq_comm

theorem decodeA1_eq_error_iff {w : OpWord} {f : BitVec 8 → Instr} {c : Reserved} :
    decodeA1 w f = .error c ↔ c = .formatA1 ∧ bField w ≠ 0#8 := by
  unfold decodeA1
  split
  · next h => simp [h]
  · next h => simpa [h] using eq_comm

theorem decodeAB_ne_error {w : OpWord} {f : Hist → Hist → Instr} {c : Reserved} :
    decodeAB w f ≠ .error c := nofun

theorem decodeL_eq_error_iff {w : OpWord} {c : Reserved} :
    decodeL w = .error c ↔ c = .formatL ∧ spareField w ≠ 0#5 := by
  unfold decodeL
  split
  · next h => simp [h]
  · next h => simpa [h] using eq_comm

/-- What the decoder can answer for `w`: the decoder of the format its opcode has, or case 1 of R64. -/
inductive DecodesByFormat (w : OpWord) : Except Reserved Instr → Prop where
  | none (h : opcodeFormat (opField w) = none) : DecodesByFormat w (.error .opcodeZero)
  | z (h : opcodeFormat (opField w) = some .z) (i : Instr) : DecodesByFormat w (decodeZ w i)
  | a1 (h : opcodeFormat (opField w) = some .a1) (f : BitVec 8 → Instr) : DecodesByFormat w (decodeA1 w f)
  | ab (h : opcodeFormat (opField w) = some .ab) (f : Hist → Hist → Instr) : DecodesByFormat w (decodeAB w f)
  | l (h : opcodeFormat (opField w) = some .l) : DecodesByFormat w (decodeL w)

theorem decode_decodesByFormat (w : OpWord) : DecodesByFormat w (decode w) := by
  unfold decode
  split
  case h_16 =>
    have hz : opField w = 0x0#4 := by
      generalize opField w = op at *
      decide +revert
    exact .none ((opcodeFormat_eq_none_iff _).mpr hz)
  case h_4 h | h_8 h => exact .a1 (h ▸ rfl) _
  case h_6 h | h_7 h => exact .ab (h ▸ rfl) _
  case h_12 h => exact .l (h ▸ rfl)
  all_goals
    next h => exact .z (h ▸ rfl) _

/-- The case of R64 a word meets, with its opcodes named by their format. -/
def MeetsReservedCase (w : OpWord) : Reserved → Prop
  | .opcodeZero => opcodeFormat (opField w) = none
  | .formatZ    => opcodeFormat (opField w) = some .z ∧ (aField w ≠ 0#8 ∨ bField w ≠ 0#8)
  | .formatA1   => opcodeFormat (opField w) = some .a1 ∧ bField w ≠ 0#8
  | .formatL    => opcodeFormat (opField w) = some .l ∧ spareField w ≠ 0#5

theorem decode_eq_error_iff (w : OpWord) (c : Reserved) : decode w = .error c ↔ MeetsReservedCase w c := by
  have hd := decode_decodesByFormat w
  generalize decode w = d at hd ⊢
  cases hd with
  | none h => cases c <;> simp [MeetsReservedCase, h]
  | z h i => rw [decodeZ_eq_error_iff]; cases c <;> simp [MeetsReservedCase, h]
  | a1 h f => rw [decodeA1_eq_error_iff]; cases c <;> simp [MeetsReservedCase, h]
  | ab h f => cases c <;> simp [MeetsReservedCase, h, decodeAB_ne_error]
  | l h => rw [decodeL_eq_error_iff]; cases c <;> simp [MeetsReservedCase, h]

/-- A reserved word is refused with code 1, whoever issues it (R64, R65). -/
theorem Machine.issueWord_reserved {w : OpWord} {c : Reserved} (h : decode w = .error c) (s : Machine.State) :
    Machine.issueWord w s = .next (s.refuse .reserved) := by
  simp only [Machine.issueWord, h]

/-! ### The decoder reads back what the encoder writes -/

theorem decode_encode (i : Instr) : decode (encode i) = .ok i := by
  cases i with
  | delay n => simp [encode, decode, decodeA1, opField_pack, aField_pack, bField_pack]
  | reset seed => simp [encode, decode, decodeA1, opField_pack, aField_pack, bField_pack]
  | hasPattern e m => simp [encode, decode, decodeAB, opField_pack, aField_pack, bField_pack]
  | waitPattern e m => simp [encode, decode, decodeAB, opField_pack, aField_pack, bField_pack]
  | ledSet m => simp [encode, decode, decodeL, opField_packL, spareField_packL, mField_packL]
  | _ => rfl

/-- A word the decoder does not refuse spells one operation and no other (R64): by `decode_encode`, the decoder
gives back every operation the word encodes. -/
theorem exists_decode_unique {w : OpWord} (h : ∀ c, decode w ≠ .error c) :
    ∃ i, decode w = .ok i ∧ ∀ j, encode j = w → j = i := by
  cases hd : decode w with
  | error c => exact absurd hd (h c)
  | ok i =>
    refine ⟨i, rfl, fun j hj => ?_⟩
    have hj' : decode w = .ok j := hj ▸ decode_encode j
    exact Except.ok.inj (hj'.symm.trans hd)

end Sys2Proof

namespace Sys2Proof.Proofs

open Sys2Proof.Machine

/-- Settles O4, from what the decoder refuses (`decode_eq_error_iff`) and the encoder's inverse
(`exists_decode_unique`). -/
theorem reservedEncodingsAreTheFourCases : Obligations.ReservedEncodingsAreTheFourCases := by
  intro w
  refine ⟨?opcodeZero, ?formatZ, ?formatA1, ?formatL, exists_decode_unique, ?refusal⟩
  case opcodeZero => exact (decode_eq_error_iff w .opcodeZero).trans (opcodeFormat_eq_none_iff _)
  case formatZ => exact (decode_eq_error_iff w .formatZ).trans (and_congr_left' (opcodeFormat_eq_z_iff _))
  case formatA1 => exact (decode_eq_error_iff w .formatA1).trans (and_congr_left' (opcodeFormat_eq_a1_iff _))
  case formatL => exact (decode_eq_error_iff w .formatL).trans (and_congr_left' (opcodeFormat_eq_l_iff _))
  case refusal => exact fun c hc s => ⟨issueWord_reserved hc s, rfl⟩

/-- Settles O5: each word of R71 that spells an operation is the encoder's word of it, and each reserved one
meets its case of R64. -/
theorem exampleWordsDecode : Obligations.ExampleWordsDecode := by
  unfold Obligations.ExampleWordsDecode
  refine ⟨decode_encode .clkStart, decode_encode .clkStop, decode_encode .waitTick, decode_encode (.delay 5#8),
    decode_encode .read, decode_encode (.hasPattern 0x00#8 0x03#8), decode_encode (.hasPattern 0xFF#8 0xFF#8),
    decode_encode (.waitPattern 0xFF#8 0xFF#8), decode_encode (.reset 0xE0#8), decode_encode .armWake,
    decode_encode .sleep, decode_encode .ledsOff, decode_encode (.ledSet 0x555#11),
    decode_encode (.ledSet 0x7FF#11), decode_encode .tickMask, decode_encode .tickUnmask, decode_encode .sample,
    ?_, ?_, ?_, ?_, ?_⟩
  all_goals
    rw [decode_eq_error_iff]
    unfold MeetsReservedCase
    decide

end Sys2Proof.Proofs
end

section
/-! PROOFS. The statements of 40_sample_clock.md: the whole next state of CLK_START and CLK_STOP issued from the
foreground (R82, R83). -/

namespace Sys2Proof.Machine

/-- What the client may issue, the controller may too: the whole foreground may (R181). -/
theorem mayIssue_foreground {i : Instr} (hi : mayIssue .client i = true) {x : Issuer} (hx : x ≠ .isr) :
    mayIssue x i = true := by
  cases x with
  | isr => exact absurd rfl hx
  | client => exact hi
  | ctrl =>
    cases i with
    | sample => cases hi
    | _ => rfl

/-- CLK_START admitted, already running or not: the count, the pending tick and the interval start over (R82). -/
theorem exec_clkStart_foreground {s : State} (hs : s.issuer ≠ .isr) :
    exec .clkStart s = .next ({ s with clkRun := true, tc := 0, tickPend := false, presc := 0 }.reply 0x00#8) :=
  calc exec .clkStart s = execClkStart s := rfl
    _ = _ := checkIssuer_ok (mayIssue_foreground rfl hs)

/-- CLK_STOP admitted: the clock is off and a pending tick is gone; the history and the count stay (R83). -/
theorem exec_clkStop_foreground {s : State} (hs : s.issuer ≠ .isr) :
    exec .clkStop s = .next ({ s with clkRun := false, tickPend := false }.reply 0x00#8) :=
  calc exec .clkStop s = execClkStop s := rfl
    _ = _ := checkIssuer_ok (mayIssue_foreground rfl hs)

/-- No tick comes after an admitted CLK_STOP: the clock no longer runs (R83, R43). -/
theorem tickStep_after_clkStop {s t : State} (hs : s.issuer ≠ .isr) (h : exec .clkStop s = .next t) :
    tickStep t = t :=
  tickStep_stopped (exec_clkStop_clkRun (mayIssue_foreground rfl hs) h)

end Sys2Proof.Machine

namespace Sys2Proof.Proofs

open Sys2Proof.Machine

/-- Settles O9: from the foreground CLK_START is admitted, and its effect is the restart. -/
theorem clkStartRestartsTheClock : Obligations.ClkStartRestartsTheClock :=
  ⟨rfl, fun _ hs => exec_clkStart_foreground hs⟩

/-- Settles O10: from the foreground CLK_STOP is admitted, and the clock it stops takes no tick. -/
theorem clkStopFreezesHistoryAndCounter : Obligations.ClkStopFreezesHistoryAndCounter :=
  ⟨rfl, fun _ hs => ⟨exec_clkStop_foreground hs, fun _ ht => tickStep_after_clkStop hs ht⟩⟩

end Sys2Proof.Proofs
end

section
/-! PROOFS. The statements of 41_debounce_engine.md: the whole next state of SAMPLE, READ, HAS_PATTERN and RESET
from each issuer (R100, R101, R102, R104). -/

namespace Sys2Proof.Machine

/-! ### Answers and admission, by the name of the issuer -/

theorem reply_of_issuer {s : State} {x : Issuer} (h : s.issuer = x) (v : BitVec 8) :
    s.reply v = { s with answer := some ⟨x, .done v⟩ } := by rw [State.reply, h]

theorem refuse_of_issuer {s : State} {x : Issuer} (h : s.issuer = x) (c : RefuseCode) :
    s.refuse c = { s with answer := some ⟨x, .refuse c⟩ } := by rw [State.refuse, h]

/-- Who issues does not depend on the history (R180). -/
theorem issuer_withSh {s : State} {x : Issuer} (h : s.issuer = x) (sh : Hist) :
    { s with sh := sh }.issuer = x := h

/-- Read forwards, the issuer check answers a next state: the refusal (R65, R181). -/
theorem exec_eq_refuse {i : Instr} {s : State} (hm : mayIssue s.issuer i = false) :
    exec i s = .next (s.refuse .issuer) := by
  obtain ⟨k, hk, -⟩ := exec_eq_checkIssuer i s
  rw [hk, checkIssuer_refused hm]

/-- SAMPLE is the handler's alone (R181). -/
theorem mayIssue_sample_eq_false {x : Issuer} (hx : x ≠ .isr) : mayIssue x .sample = false :=
  beq_eq_false_iff_ne.mpr hx

/-! ### The comparison of R102 -/

theorem boolResult_patternHolds (h expected mask : Hist) :
    boolResult (patternHolds h expected mask) = if h &&& mask = expected then 0x01#8 else 0x00#8 := by
  simp only [boolResult, patternHolds, beq_iff_eq]

/-- A masked history has no bit outside the mask, so an `expected` with one there is never met (R102). -/
theorem and_mask_ne_of_outside {expected mask : Hist} (hout : expected &&& ~~~mask ≠ 0x00#8) (h : Hist) :
    h &&& mask ≠ expected := by
  rintro rfl
  have hclear : h &&& mask &&& ~~~mask = 0x00#8 := by
    rw [BitVec.and_assoc, BitVec.and_not_self]
    exact BitVec.and_zero
  exact hout hclear

/-! ### The operations, admitted -/

/-- SAMPLE admitted: the pin is shifted into the history (R100). -/
theorem exec_sample_isr {s : State} (hs : s.issuer = .isr) :
    exec .sample s = .next { s with sh := shiftIn s.sh s.btnRaw, answer := some ⟨.isr, .done 0x00#8⟩ } :=
  calc exec .sample s = execSample s := rfl
    _ = .next (State.reply { s with sh := shiftIn s.sh s.btnRaw } 0x00#8) := checkIssuer_ok (by rw [hs]; rfl)
    _ = _ := by rw [reply_of_issuer (issuer_withSh hs _)]

/-- READ admitted: the history is the result (R101). -/
theorem exec_read_foreground {s : State} (hs : s.issuer ≠ .isr) : exec .read s = .next (s.reply s.sh) :=
  calc exec .read s = execRead s := rfl
    _ = _ := checkIssuer_ok (mayIssue_foreground rfl hs)

/-- HAS_PATTERN admitted: the comparison under the mask is the result (R102). -/
theorem exec_hasPattern_foreground {s : State} (hs : s.issuer ≠ .isr) (expected mask : Hist) :
    exec (.hasPattern expected mask) s =
      .next (s.reply (if s.sh &&& mask = expected then 0x01#8 else 0x00#8)) :=
  calc exec (.hasPattern expected mask) s = execHasPattern expected mask s := rfl
    _ = .next (s.reply (boolResult (patternHolds s.sh expected mask))) :=
      checkIssuer_ok (mayIssue_foreground rfl hs)
    _ = _ := by rw [boolResult_patternHolds]

/-- RESET admitted: the history is the seed (R104). -/
theorem exec_reset_ctrl {s : State} (hs : s.issuer = .ctrl) (seed : Hist) :
    exec (.reset seed) s = .next { s with sh := seed, answer := some ⟨.ctrl, .done 0x00#8⟩ } :=
  calc exec (.reset seed) s = execReset seed s := rfl
    _ = .next (State.reply { s with sh := seed } 0x00#8) := checkIssuer_ok (by rw [hs]; rfl)
    _ = _ := by rw [reply_of_issuer (issuer_withSh hs _)]

/-- RESET is the controller's alone: from the client it is refused (R104, R181). -/
theorem exec_reset_client {s : State} (hs : s.issuer = .client) (seed : Hist) :
    exec (.reset seed) s = .next { s with answer := some ⟨.client, .refuse .issuer⟩ } := by
  rw [exec_eq_refuse (by rw [hs]; rfl), refuse_of_issuer hs]

/-- An admitted RESET leaves the controller the issuer, and a READ it then issues returns the seed (R104). -/
theorem exec_read_after_reset {s t : State} {seed : Hist} (hs : s.issuer = .ctrl)
    (h : exec (.reset seed) s = .next t) :
    exec .read t = .next { t with answer := some ⟨.ctrl, .done seed⟩ } := by
  rw [exec_reset_ctrl hs] at h
  cases h
  have hissuer : { s with sh := seed, answer := some ⟨.ctrl, .done 0x00#8⟩ }.issuer = .ctrl := hs
  rw [exec_read_foreground (by simp [hissuer]), reply_of_issuer hissuer]

end Sys2Proof.Machine

namespace Sys2Proof.Proofs

open Sys2Proof.Machine

/-- Settles O12: the handler's SAMPLE is admitted and shifts the pin in; any other issuer's is refused. -/
theorem sampleShiftsThePinIn : Obligations.SampleShiftsThePinIn :=
  ⟨rfl, fun _ hs => exec_sample_isr hs, fun _ hs => exec_eq_refuse (mayIssue_sample_eq_false hs)⟩

/-- Settles O13: from the foreground READ is admitted, and its effect is the answer alone. -/
theorem readReturnsTheHistory : Obligations.ReadReturnsTheHistory :=
  ⟨rfl, fun _ hs => exec_read_foreground hs⟩

/-- Settles O14: from the foreground HAS_PATTERN is admitted, its effect is the answer alone, and masking leaves
nothing outside the mask to compare. -/
theorem hasPatternComparesUnderTheMask : Obligations.HasPatternComparesUnderTheMask :=
  fun s expected mask hs =>
    ⟨rfl, exec_hasPattern_foreground hs expected mask, fun hout => and_mask_ne_of_outside hout s.sh⟩

/-- Settles O15: the controller's RESET is admitted and overwrites the history a READ then returns; the client's
is refused. -/
theorem resetOverwritesTheHistory : Obligations.ResetOverwritesTheHistory :=
  ⟨fun _ => rfl, fun _ seed hs => ⟨exec_reset_ctrl hs seed, fun _ ht => exec_read_after_reset hs ht⟩,
    fun _ seed hs => exec_reset_client hs seed⟩

end Sys2Proof.Proofs
end

section
/-! PROOFS. The statements of 42_power_and_system.md: the whole next state of ARM_WAKE and SLEEP from the
controller, of the same two refused to the client (R120, R121), and of LEDS_OFF and LED_SET (R122, R123). -/

namespace Sys2Proof.Machine

/-! ### Arming and sleeping -/

/-- What is not the client's to issue is refused to it with code 2, whatever it is (R181). -/
theorem exec_client_refused {i : Instr} (hi : mayIssue .client i = false) {s : State} (hs : s.issuer = .client) :
    exec i s = .next { s with answer := some ⟨.client, .refuse .issuer⟩ } := by
  rw [exec_eq_refuse (hs ▸ hi), refuse_of_issuer hs]

/-- ARM_WAKE admitted: the wake interrupt is armed, with no look at the pin (R120). -/
theorem exec_armWake_ctrl {s : State} (hs : s.issuer = .ctrl) :
    exec .armWake s = .next { s with wakeEn := true, answer := some ⟨.ctrl, .done 0x00#8⟩ } := by
  have hissuer : { s with wakeEn := true }.issuer = .ctrl := hs
  calc exec .armWake s = execArmWake s := rfl
    _ = .next (State.reply { s with wakeEn := true } 0x00#8) := checkIssuer_ok (by rw [hs]; rfl)
    _ = _ := by rw [reply_of_issuer hissuer]

/-- SLEEP admitted: what it does is left to its precondition (R121). -/
theorem exec_sleep_ctrl {s : State} (hs : s.issuer = .ctrl) :
    exec .sleep s =
      .next (if s.clkRun then s.refuse .precond else { s with powerState := .sleeping }.reply 0x00#8) :=
  calc exec .sleep s = execSleep s := rfl
    _ = _ := checkIssuer_ok (by rw [hs]; rfl)

/-- With the clock stopped the block falls asleep, armed or not (R121). -/
theorem exec_sleep_stopped {s : State} (hs : s.issuer = .ctrl) (hclk : s.clkRun = false) :
    exec .sleep s = .next { s with powerState := .sleeping, answer := some ⟨.ctrl, .done 0x00#8⟩ } := by
  have hissuer : { s with powerState := .sleeping }.issuer = .ctrl := hs
  rw [exec_sleep_ctrl hs, if_neg (by simp [hclk]), reply_of_issuer hissuer]

/-- With the clock running SLEEP is refused with code 3 (R121, R166). -/
theorem exec_sleep_running {s : State} (hs : s.issuer = .ctrl) (hclk : s.clkRun = true) :
    exec .sleep s = .next { s with answer := some ⟨.ctrl, .refuse .precond⟩ } := by
  rw [exec_sleep_ctrl hs, if_pos hclk, refuse_of_issuer hs]

/-! ### The light mask -/

/-- LED_SET admitted: the operand is the light mask (R123). -/
theorem exec_ledSet_foreground {s : State} (hs : s.issuer ≠ .isr) (m : LedMask) :
    exec (.ledSet m) s = .next { s with led := m, answer := some ⟨s.issuer, .done 0x00#8⟩ } :=
  calc exec (.ledSet m) s = execLedSet m s := rfl
    _ = .next (State.reply { s with led := m } 0x00#8) := checkIssuer_ok (mayIssue_foreground rfl hs)
    _ = _ := rfl

/-- LEDS_OFF admitted: all eleven bits of the mask are 1, which is off (R122). -/
theorem exec_ledsOff_foreground {s : State} (hs : s.issuer ≠ .isr) :
    exec .ledsOff s = .next { s with led := 0x7FF#11, answer := some ⟨s.issuer, .done 0x00#8⟩ } :=
  calc exec .ledsOff s = execLedsOff s := rfl
    _ = .next (State.reply { s with led := Config.ledOff } 0x00#8) := checkIssuer_ok (mayIssue_foreground rfl hs)
    _ = _ := rfl

/-- LED_SET of the mask with every light off is LEDS_OFF (R123). -/
theorem exec_ledSet_eq_ledsOff {s : State} (hs : s.issuer ≠ .isr) :
    exec (.ledSet 0x7FF#11) s = exec .ledsOff s :=
  (exec_ledSet_foreground hs 0x7FF#11).trans (exec_ledsOff_foreground hs).symm

end Sys2Proof.Machine

namespace Sys2Proof.Proofs

open Sys2Proof.Machine

/-- Settles O16: the controller's ARM_WAKE is admitted and arms, its SLEEP goes by the clock, and the client
may issue neither. -/
theorem armWakeArmsAndSleepSleeps : Obligations.ArmWakeArmsAndSleepSleeps :=
  ⟨rfl, rfl, rfl, rfl,
    fun _ hs => ⟨exec_armWake_ctrl hs, exec_sleep_stopped hs, exec_sleep_running hs⟩,
    fun _ hs => ⟨exec_client_refused rfl hs, exec_client_refused rfl hs⟩⟩

/-- Settles O17: from the foreground the two operations are admitted and write the mask; a LED_SET word with a
spare bit set meets the last case of R64. -/
theorem ledOperationsWriteTheMask : Obligations.LedOperationsWriteTheMask := by
  refine ⟨rfl, fun _ => rfl, ?reservedWord, ?effect⟩
  case reservedWord =>
    intro w hop hspare
    exact (decode_eq_error_iff w .formatL).mpr ⟨(opcodeFormat_eq_l_iff _).mpr hop, hspare⟩
  case effect =>
    exact fun s hs => ⟨exec_ledsOff_foreground hs, exec_ledSet_foreground hs, exec_ledSet_eq_ledsOff hs⟩

end Sys2Proof.Proofs
end

section
/-! PROOFS. The statement of 60_exceptions.md: nothing stops the machine (R165). Every operation is an admission,
which answers a next state either way, and going on after a next state answers one; layer by layer, so do a word
issued, a move of the foreground, a turn and the step. -/

namespace Sys2Proof.Machine

/-- Going on after an outcome that is a next state answers a next state. -/
theorem exists_mapNext_eq_next {o : Host.Outcome State Fault Refusal} (h : ∃ u, o = .next u) (f : State → State) :
    ∃ t, mapNext o f = .next t := by
  obtain ⟨u, rfl⟩ := h
  exact ⟨f u, mapNext_next u f⟩

/-- An admission answers its effect or the refusal of R181, a next state both. -/
theorem exists_checkIssuer_eq_next (i : Instr) (s : State) (k : State → State) :
    ∃ t, checkIssuer i s k = .next t := by
  cases hm : mayIssue s.issuer i with
  | true => exact ⟨k s, checkIssuer_ok hm⟩
  | false => exact ⟨s.refuse .issuer, checkIssuer_refused hm⟩

/-- No operation stops the machine, for any operand and in any state. -/
theorem exists_exec_eq_next (i : Instr) (s : State) : ∃ t, exec i s = .next t := by
  obtain ⟨k, hk, -⟩ := exec_eq_checkIssuer i s
  rw [hk]
  exact exists_checkIssuer_eq_next i s k

/-- Nor does a word, reserved or not (R64, R65). -/
theorem exists_issueWord_eq_next (w : OpWord) (s : State) : ∃ t, issueWord w s = .next t := by
  cases hw : decode w with
  | error c => exact ⟨s.refuse .reserved, issueWord_reserved hw s⟩
  | ok i =>
    obtain ⟨t, ht⟩ := exists_exec_eq_next i s
    exact ⟨t, by simp only [issueWord, hw, ht]⟩

/-- Of the foreground's moves two run an operation; the others assign the state directly (R44). -/
theorem exists_runMove_eq_next (m : FgMove) (s : State) : ∃ t, runMove m s = .next t := by
  cases m with
  | ctrl i n => exact exists_mapNext_eq_next (exists_exec_eq_next i s) _
  | accept w => exact exists_issueWord_eq_next w s
  | _ => exact ⟨_, rfl⟩

theorem exists_fgStep_eq_next (d : Drive) (s : State) : ∃ t, fgStep d s = .next t :=
  exists_mapNext_eq_next (exists_runMove_eq_next _ s) _

/-- A clock edge goes on after the foreground's step if the block was awake (R212). -/
theorem exists_clockEdge_eq_next (b : Bool) (d : Drive) (s : State) : ∃ t, clockEdge b d s = .next t := by
  unfold clockEdge
  cases s.powerState with
  | sleeping => exact ⟨_, rfl⟩
  | active => exact exists_mapNext_eq_next (exists_fgStep_eq_next d _) _

/-- A word turn issues its word, or changes nothing where the word is not taken (log 18). -/
theorem exists_wordStep_eq_next (x : Issuer) (w : OpWord) (s : State) : ∃ t, wordStep x w s = .next t := by
  unfold wordStep
  split
  · exact exists_mapNext_eq_next (exists_issueWord_eq_next w _) _
  all_goals
    split
    · exact exists_issueWord_eq_next w s
    · exact ⟨s, rfl⟩

/-- No turn of any agent stops the machine (R41). -/
theorem exists_runTurn_eq_next (e : Turn) (s : State) : ∃ t, runTurn e s = .next t := by
  cases e with
  | pin b => exact ⟨pinStep s b, rfl⟩
  | tick => exact ⟨tickStep s, rfl⟩
  | fg d => exact exists_fgStep_eq_next d s
  | reset => exact ⟨resetStep s, rfl⟩
  | cycle rst b d =>
    cases rst with
    | true => exact ⟨resetStep { s with btnRaw := b }, rfl⟩
    | false => exact exists_clockEdge_eq_next b d s
  | word x w => exact exists_wordStep_eq_next x w s

end Sys2Proof.Machine

namespace Sys2Proof.Proofs

open Sys2Proof.Machine

/-- Settles O34: an operation is an admission (`exec_eq_checkIssuer`), and a step is one turn of one agent. -/
theorem nothingEverStopsTheMachine : Obligations.NothingEverStopsTheMachine :=
  ⟨exists_exec_eq_next, fun s => exists_runTurn_eq_next s.nextTurn s.begin⟩

end Sys2Proof.Proofs
end

section
/-! PROOFS. The round trips of 30_encoding.md: the encoder gives back the word the decoder read, the decoder agrees
with the match and mask columns (R61 to R63), and an assembly line assembles to its operation (R69). -/

namespace Sys2Proof

/-! ### The encoder gives back the word the decoder read -/

theorem decodeZ_eq_ok_iff {w : OpWord} {i j : Instr} :
    decodeZ w j = .ok i ↔ i = j ∧ aField w = 0#8 ∧ bField w = 0#8 := by
  unfold decodeZ
  split
  · next h => simpa [h] using eq_comm
  · next h => simp [h]

theorem decodeA1_eq_ok_iff {w : OpWord} {i : Instr} {f : BitVec 8 → Instr} :
    decodeA1 w f = .ok i ↔ i = f (aField w) ∧ bField w = 0#8 := by
  unfold decodeA1
  split
  · next h => simpa [h] using eq_comm
  · next h => simp [h]

theorem decodeAB_eq_ok_iff {w : OpWord} {i : Instr} {f : Hist → Hist → Instr} :
    decodeAB w f = .ok i ↔ i = f (aField w) (bField w) := by
  simpa [decodeAB] using eq_comm

theorem decodeL_eq_ok_iff {w : OpWord} {i : Instr} :
    decodeL w = .ok i ↔ i = .ledSet (mField w) ∧ spareField w = 0#5 := by
  unfold decodeL
  split
  · next h => simpa [h] using eq_comm
  · next h => simp [h]

/-- A word is its opcode packed with its two operands (R60). -/
theorem pack_of_opField_ab {w : OpWord} {op : Opcode} (hop : opField w = op) :
    pack op (aField w) (bField w) = w :=
  hop ▸ pack_fields w

theorem pack_of_opField_a1 {w : OpWord} {op : Opcode} (hop : opField w = op) (hb : bField w = 0#8) :
    pack op (aField w) 0#8 = w :=
  hb ▸ pack_of_opField_ab hop

theorem pack_of_opField_z {w : OpWord} {op : Opcode} (hop : opField w = op) (ha : aField w = 0#8)
    (hb : bField w = 0#8) : pack op 0#8 0#8 = w :=
  calc pack op 0#8 0#8 = pack op (aField w) 0#8 := by rw [ha]
    _ = w := pack_of_opField_a1 hop hb

/-- The encoder undoes the decoder, format by format: every field a format does not hand to the operation is zero,
so the word is the packing the encoder writes. -/
theorem encode_of_decode {w : OpWord} {i : Instr} (h : decode w = .ok i) : encode i = w := by
  unfold decode at h
  split at h
  case h_4 hop | h_8 hop =>
    obtain ⟨rfl, hb⟩ := decodeA1_eq_ok_iff.mp h
    exact pack_of_opField_a1 hop hb
  case h_6 hop | h_7 hop =>
    obtain rfl := decodeAB_eq_ok_iff.mp h
    exact pack_of_opField_ab hop
  case h_12 hop =>
    obtain ⟨rfl, hspare⟩ := decodeL_eq_ok_iff.mp h
    exact packL_fields w hop hspare
  case h_16 => cases h
  all_goals
    next hop =>
      obtain ⟨rfl, ha, hb⟩ := decodeZ_eq_ok_iff.mp h
      exact pack_of_opField_z hop ha hb

/-! ### The match and mask columns -/

/-- The word of every operation fits the operation's row (R63). -/
theorem encode_fits_row (i : Instr) : (tableRows[i.row]).fits (encode i) = true := by
  cases i with
  | clkStart => exact Laws.WordFitsRow.clkStart
  | clkStop => exact Laws.WordFitsRow.clkStop
  | waitTick => exact Laws.WordFitsRow.waitTick
  | delay n => exact Laws.WordFitsRow.delay n
  | read => exact Laws.WordFitsRow.read
  | hasPattern e m => exact Laws.WordFitsRow.hasPattern e m
  | waitPattern e m => exact Laws.WordFitsRow.waitPattern e m
  | reset seed => exact Laws.WordFitsRow.reset seed
  | armWake => exact Laws.WordFitsRow.armWake
  | sleep => exact Laws.WordFitsRow.sleep
  | ledsOff => exact Laws.WordFitsRow.ledsOff
  | ledSet m => exact Laws.WordFitsRow.ledSet m
  | tickMask => exact Laws.WordFitsRow.tickMask
  | tickUnmask => exact Laws.WordFitsRow.tickUnmask
  | sample => exact Laws.WordFitsRow.sample

/-- Under the full mask of format `Z` only the row's own word fits. -/
theorem eq_of_fits_z {w v : OpWord} (h : w &&& 0xFFFFF#20 = v) : v = w := by
  rw [← h, show (0xFFFFF#20 : OpWord) = BitVec.allOnes 20 by decide, BitVec.and_allOnes]

/-- Under the mask of format `A1` the opcode and `B` are the row's, and `A` is free. -/
theorem pack_of_fits_a1 {w : OpWord} {op : Opcode} (h : w &&& 0xF00FF#20 = pack op 0#8 0#8) :
    pack op (aField w) 0#8 = w := by
  rw [← pack_fields w, pack_and_maskA1] at h
  have hop : opField w = op := by simpa only [opField_pack] using congrArg opField h
  have hb : bField w = 0#8 := by simpa only [bField_pack] using congrArg bField h
  exact pack_of_opField_a1 hop hb

/-- Under the mask of format `AB` the opcode is the row's, and both operands are free. -/
theorem pack_of_fits_ab {w : OpWord} {op : Opcode} (h : w &&& 0xF0000#20 = pack op 0#8 0#8) :
    pack op (aField w) (bField w) = w := by
  rw [← pack_fields w, pack_and_maskAB] at h
  have hop : opField w = op := by simpa only [opField_pack] using congrArg opField h
  exact pack_of_opField_ab hop

/-- Under the mask of format `L` the opcode and the five spare bits are the row's, and the light mask is free. -/
theorem packL_of_fits_l {w : OpWord} (h : w &&& 0xFF800#20 = 0xC0000#20) : packL (mField w) = w := by
  have hop : opField w = 0xC#4 := by
    have hmasked : opField (w &&& 0xFF800#20) = opField w := by
      unfold opField
      rw [BitVec.extractLsb'_and]
      exact BitVec.and_allOnes
    rw [← hmasked, h]
    rfl
  have hspare : spareField w = 0#5 := by
    have hmasked : spareField (w &&& 0xFF800#20) = spareField w := by
      unfold spareField
      rw [BitVec.extractLsb'_and]
      exact BitVec.and_allOnes
    rw [← hmasked, h]
    rfl
  exact packL_fields w hop hspare

/-- A word that fits a row is the word of an operation of that row (R63). -/
theorem exists_encode_of_fits {w : OpWord} {r : Fin 15} (h : (tableRows[r]).fits w = true) :
    ∃ i, encode i = w ∧ i.row = r := by
  have hfit : w &&& (tableRows[r]).mask = (tableRows[r]).word := by simpa [TableRow.fits] using h
  fin_cases r
  · exact ⟨.clkStart, eq_of_fits_z hfit, rfl⟩
  · exact ⟨.clkStop, eq_of_fits_z hfit, rfl⟩
  · exact ⟨.waitTick, eq_of_fits_z hfit, rfl⟩
  · exact ⟨.delay (aField w), pack_of_fits_a1 hfit, rfl⟩
  · exact ⟨.read, eq_of_fits_z hfit, rfl⟩
  · exact ⟨.hasPattern (aField w) (bField w), pack_of_fits_ab hfit, rfl⟩
  · exact ⟨.waitPattern (aField w) (bField w), pack_of_fits_ab hfit, rfl⟩
  · exact ⟨.reset (aField w), pack_of_fits_a1 hfit, rfl⟩
  · exact ⟨.armWake, eq_of_fits_z hfit, rfl⟩
  · exact ⟨.sleep, eq_of_fits_z hfit, rfl⟩
  · exact ⟨.ledsOff, eq_of_fits_z hfit, rfl⟩
  · exact ⟨.ledSet (mField w), packL_of_fits_l hfit, rfl⟩
  · exact ⟨.tickMask, eq_of_fits_z hfit, rfl⟩
  · exact ⟨.tickUnmask, eq_of_fits_z hfit, rfl⟩
  · exact ⟨.sample, eq_of_fits_z hfit, rfl⟩

/-! ### Assembly lines -/

/-- An operand printed from a field fits it and reads back as the field (R62). -/
theorem Machine.fitOperand_toNat {width : Nat} (n : BitVec width) : Machine.fitOperand width n.toNat = some n := by
  simp [Machine.fitOperand, n.isLt]

end Sys2Proof

namespace Sys2Proof.Proofs

open Sys2Proof.Machine

/-- Settles O1: the encoder writes each format's fields where the decoder reads them (`decode_encode`). -/
theorem decodeOfEncodeIsTheInstruction : Obligations.DecodeOfEncodeIsTheInstruction :=
  decode_encode

/-- Settles O2: each format's decoder leaves no field of the word unread (`encode_of_decode`). -/
theorem encodeOfDecodeIsTheWord : Obligations.EncodeOfDecodeIsTheWord :=
  fun _ _ => encode_of_decode

/-- Settles O3: the operation decoded from a word writes that word, which fits its row; a word that fits a row is
written by an operation of the row, which is then the one decoded. -/
theorem decoderFollowsMatchAndMask : Obligations.DecoderFollowsMatchAndMask := by
  intro w r
  constructor
  · rintro ⟨i, hi, rfl⟩
    obtain rfl := encode_of_decode hi
    exact encode_fits_row i
  · intro hfit
    obtain ⟨i, rfl, hrow⟩ := exists_encode_of_fits hfit
    exact ⟨i, decode_encode i, hrow⟩

/-- Settles O6: a mnemonic without operands selects its operation outright; with operands, each one printed reads
back (`fitOperand_toNat`). -/
theorem assemblyLinesRoundTrip : Obligations.AssemblyLinesRoundTrip := by
  intro i
  cases i with
  | delay n | reset n => simp [asmLine, assembleLine, assemble1, fitOperand_toNat]
  | ledSet m => simp [asmLine, assembleLine, assemble1, fitOperand_toNat]
  | hasPattern e m | waitPattern e m => simp [asmLine, assembleLine, assemble2, fitOperand_toNat]
  | _ => rfl

end Sys2Proof.Proofs
end

section
/-! PROOFS. The operations one by one: what each does once its issuer may issue it, said once (`effect`), and the
fields each leaves as they are; then the statements about single operations, the handlers and the outputs. -/

namespace Sys2Proof.Machine

/-! ### The effect behind the issuer check -/

/-- What an operation does when its issuer may issue it (R82 to R85, R100 to R104, R120 to R125). -/
def effect (i : Instr) (s : State) : State :=
  match i with
  | .clkStart        => { s with clkRun := true, tc := 0, tickPend := false, presc := 0 }.reply 0x00#8
  | .clkStop         => { s with clkRun := false, tickPend := false }.reply 0x00#8
  | .waitTick        => { s with tRef := s.tc }.enterWait 0x3#4
  | .delay n         => { s with tRef := delayTarget s.params s.tc n, opA := n }.enterWait 0x4#4
  | .read            => s.reply s.sh
  | .hasPattern e m  => s.reply (boolResult (patternHolds s.sh e m))
  | .waitPattern e m => { s.clearSawZero with opA := e, opB := m }.enterWait 0x7#4
  | .reset seed      => { s with sh := seed }.reply 0x00#8
  | .armWake         => { s with wakeEn := true }.reply 0x00#8
  | .sleep           => if s.clkRun then s.refuse .precond else { s with powerState := .sleeping }.reply 0x00#8
  | .ledsOff         => { s with led := Config.ledOff }.reply 0x00#8
  | .ledSet m        => { s with led := m }.reply 0x00#8
  | .tickMask        => { s with tie := false }.reply 0x00#8
  | .tickUnmask      =>
    (if s.tickPend then tickHandler { s with tie := true } else { s with tie := true }).reply 0x00#8
  | .sample          => { s with sh := shiftIn s.sh s.btnRaw }.reply 0x00#8

/-- `exec` is the issuer check in front of `effect` (R65). -/
theorem exec_eq_effect (i : Instr) (s : State) : exec i s = checkIssuer i s (effect i) := by
  cases i <;> rfl

/-- An operation its issuer may issue does its effect. -/
theorem exec_of_mayIssue {i : Instr} {s : State} (hm : mayIssue s.issuer i = true) :
    exec i s = .next (effect i s) := by
  rw [exec_eq_effect, checkIssuer_ok hm]

/-- What the client may issue does its effect from the whole foreground. -/
theorem exec_of_foreground {i : Instr} {s : State} (hi : mayIssue .client i = true) (hs : s.issuer ≠ .isr) :
    exec i s = .next (effect i s) :=
  exec_of_mayIssue (mayIssue_foreground hi hs)

/-- An operation is refused for its issuer, or does its effect. -/
theorem exec_cases {i : Instr} {s t : State} (h : exec i s = .next t) :
    (mayIssue s.issuer i = false ∧ t = s.refuse .issuer) ∨ (mayIssue s.issuer i = true ∧ t = effect i s) :=
  checkIssuer_cases (exec_eq_effect i s ▸ h)

/-- TICK_UNMASK with nothing deferred (R125). -/
theorem effect_tickUnmask_idle {s : State} (h : s.tickPend = false) :
    effect .tickUnmask s = { s with tie := true }.reply 0x00#8 := by
  simp only [effect, h, Bool.false_eq_true, if_false]

/-- TICK_UNMASK with a deferred tick: the tick is serviced in the same step (R125). -/
theorem effect_tickUnmask_pending {s : State} (h : s.tickPend = true) :
    effect .tickUnmask s = (tickHandler { s with tie := true }).reply 0x00#8 := by
  simp only [effect, h, if_true]

theorem effect_tickUnmask_cases (s : State) :
    effect .tickUnmask s = { s with tie := true }.reply 0x00#8 ∨
    effect .tickUnmask s = (tickHandler { s with tie := true }).reply 0x00#8 := by
  obtain h | h := Bool.eq_false_or_eq_true s.tickPend
  · exact .inr (effect_tickUnmask_pending h)
  · exact .inl (effect_tickUnmask_idle h)

/-- SLEEP is refused by its precondition, or sleeps (R121). -/
theorem effect_sleep_cases (s : State) :
    effect .sleep s = s.refuse .precond ∨ effect .sleep s = { s with powerState := .sleeping }.reply 0x00#8 := by
  unfold effect
  dsimp only
  split
  · exact .inl rfl
  · exact .inr rfl

/-! ### Who writes what (R24, R180) -/

/-- `SH` is written by SAMPLE, RESET and the deferred service inside TICK_UNMASK alone. -/
theorem effect_sh {i : Instr} (hsample : i ≠ .sample) (hreset : ∀ seed, i ≠ .reset seed)
    (hunmask : i ≠ .tickUnmask) (s : State) : (effect i s).sh = s.sh := by
  cases i with
  | sample => exact absurd rfl hsample
  | reset seed => exact absurd rfl (hreset seed)
  | tickUnmask => exact absurd rfl hunmask
  | sleep => obtain h | h := effect_sleep_cases s <;> rw [h] <;> rfl
  | _ => rfl

/-- `TC` is written by CLK_START and the deferred service alone. -/
theorem effect_tc {i : Instr} (hstart : i ≠ .clkStart) (hunmask : i ≠ .tickUnmask) (s : State) :
    (effect i s).tc = s.tc := by
  cases i with
  | clkStart => exact absurd rfl hstart
  | tickUnmask => exact absurd rfl hunmask
  | sleep => obtain h | h := effect_sleep_cases s <;> rw [h] <;> rfl
  | _ => rfl

/-- `tie` is written by TICK_MASK and TICK_UNMASK alone. -/
theorem effect_tie {i : Instr} (hmask : i ≠ .tickMask) (hunmask : i ≠ .tickUnmask) (s : State) :
    (effect i s).tie = s.tie := by
  cases i with
  | tickMask => exact absurd rfl hmask
  | tickUnmask => exact absurd rfl hunmask
  | sleep => obtain h | h := effect_sleep_cases s <;> rw [h] <;> rfl
  | _ => rfl

/-- `led` is written by LEDS_OFF and LED_SET alone. -/
theorem effect_led {i : Instr} (hoff : i ≠ .ledsOff) (hset : ∀ m, i ≠ .ledSet m) (s : State) :
    (effect i s).led = s.led := by
  cases i with
  | ledsOff => exact absurd rfl hoff
  | ledSet m => exact absurd rfl (hset m)
  | sleep => obtain h | h := effect_sleep_cases s <;> rw [h] <;> rfl
  | tickUnmask => obtain h | h := effect_tickUnmask_cases s <;> rw [h] <;> rfl
  | _ => rfl

/-- From the foreground SAMPLE is refused, so `SH` changes by RESET and the deferred service alone. -/
theorem exec_sh {i : Instr} {s t : State} (hs : s.issuer ≠ .isr) (h : exec i s = .next t)
    (hreset : ∀ seed, i ≠ .reset seed) (hunmask : i ≠ .tickUnmask) : t.sh = s.sh := by
  obtain ⟨-, rfl⟩ | ⟨hm, rfl⟩ := exec_cases h
  · rfl
  · refine effect_sh ?_ hreset hunmask s
    rintro rfl
    rw [mayIssue_sample_eq_false hs] at hm
    cases hm

theorem exec_tc {i : Instr} {s t : State} (h : exec i s = .next t) (hstart : i ≠ .clkStart)
    (hunmask : i ≠ .tickUnmask) : t.tc = s.tc := by
  obtain ⟨-, rfl⟩ | ⟨-, rfl⟩ := exec_cases h
  · rfl
  · exact effect_tc hstart hunmask s

theorem exec_tie {i : Instr} {s t : State} (h : exec i s = .next t) (hmask : i ≠ .tickMask)
    (hunmask : i ≠ .tickUnmask) : t.tie = s.tie := by
  obtain ⟨-, rfl⟩ | ⟨-, rfl⟩ := exec_cases h
  · rfl
  · exact effect_tie hmask hunmask s

theorem exec_led {i : Instr} {s t : State} (h : exec i s = .next t) (hoff : i ≠ .ledsOff)
    (hset : ∀ m, i ≠ .ledSet m) : t.led = s.led := by
  obtain ⟨-, rfl⟩ | ⟨-, rfl⟩ := exec_cases h
  · rfl
  · exact effect_led hoff hset s

/-- After CLK_START, refused or not, `TC` is 0 or as it was (R82). -/
theorem exec_clkStart_tc {s t : State} (h : exec .clkStart s = .next t) : t.tc = s.tc ∨ t.tc = 0 := by
  obtain ⟨-, rfl⟩ | ⟨-, rfl⟩ := exec_cases h
  · exact .inl rfl
  · exact .inr rfl

/-- The client is in `C_FUN` (R180). -/
theorem seq_of_issuer_client {s : State} (h : s.issuer = .client) : s.seq = .cFun := by
  unfold State.issuer at h
  split at h
  · cases h
  · split at h
    · assumption
    · cases h

/-! ### The outputs -/

theorem response_of_client {s : State} {r : Reply} (h : s.answer = some ⟨.client, r⟩) :
    s.response = some r := by
  simp only [State.response, h]

theorem response_of_none {s : State} (h : s.answer = none) : s.response = none := by
  simp only [State.response, h]

/-- An answer to another issuer is not on the port (log 10). -/
theorem response_of_other {s : State} {x : Issuer} {r : Reply} (hx : x ≠ .client)
    (h : s.answer = some ⟨x, r⟩) : s.response = none := by
  cases x with
  | client => exact absurd rfl hx
  | isr | ctrl => simp only [State.response, h]

/-- With no response `rsp_valid` is 0 (R151). -/
theorem outputs_rspValid_of_none {s : State} (h : s.response = none) : s.outputs.rspValid = false := by
  simp only [State.outputs, h, Option.isSome_none]

end Sys2Proof.Machine

namespace Sys2Proof.Proofs

open Sys2Proof.Machine

/-- Settles O11: the three waits are entered from the whole foreground, and their effect is the entry step. -/
theorem blockingOperationsEnterTheirWaits : Obligations.BlockingOperationsEnterTheirWaits :=
  fun _ hs => ⟨exec_of_foreground rfl hs, fun _ => exec_of_foreground rfl hs,
    fun _ _ => exec_of_foreground rfl hs⟩

/-- Settles O18: TICK_MASK's effect leaves a firing tick masked, and TICK_UNMASK's depends on the pending one. -/
theorem tickMaskDefersAndUnmaskServices : Obligations.TickMaskDefersAndUnmaskServices := by
  refine ⟨rfl, rfl, fun s hs => ⟨exec_of_foreground rfl hs, ?deferred, ?idle, ?pending⟩⟩
  case deferred =>
    intro t ht
    rw [exec_of_foreground rfl hs] at ht
    cases ht
    exact fireTick_deferred rfl
  case idle =>
    intro hpend
    rw [exec_of_foreground rfl hs, effect_tickUnmask_idle hpend]
    rfl
  case pending =>
    intro hpend
    rw [exec_of_foreground rfl hs, effect_tickUnmask_pending hpend]
    rfl

/-- Settles O19: the check refuses before any effect, and the permission table is read row by row. -/
theorem issuerCheckRefusesWithCodeTwo : Obligations.IssuerCheckRefusesWithCodeTwo := by
  refine ⟨fun _ _ hm => exec_eq_refuse hm, rfl, fun i => ?_⟩
  cases i <;> simp [mayIssue]

/-- Settles O27: ARM_WAKE then SLEEP write, with the clock stopped, what the fused step writes. -/
theorem fusedSleepIsArmWakeThenSleep : Obligations.FusedSleepIsArmWakeThenSleep := by
  intro s hs hclk
  have hissuer : { s with wakeEn := true, answer := some ⟨.ctrl, .done 0x00#8⟩ }.issuer = .ctrl := hs
  exact ⟨_, _, exec_armWake_ctrl hs, exec_sleep_stopped hissuer hclk, rfl⟩

/-- Settles O33: the response group is read from the answer, by the issuer it goes to. -/
theorem outputsAreFunctionsOfTheState : Obligations.OutputsAreFunctionsOfTheState := by
  intro s
  refine ⟨?sleeping, ?funActive, ?cmdReady, ?pressed, ?released, ?notBoth, rfl, rfl, rfl, ?done, ?refused,
    ?other, ?silent⟩
  case sleeping | funActive | cmdReady | pressed | released => simp [State.outputs]
  case notBoth =>
    rintro ⟨hpressed, hreleased⟩
    have hzero : s.sh = 0x00#8 := by simpa [State.outputs] using hpressed
    have hones : s.sh = 0xFF#8 := by simpa [State.outputs] using hreleased
    exact absurd (hzero.symm.trans hones) (by decide)
  case done =>
    intro v hv
    simp [State.outputs, response_of_client hv]
  case refused =>
    intro c hc
    simp [State.outputs, response_of_client hc]
  case other => exact fun x r hx hr => outputs_rspValid_of_none (response_of_other hx hr)
  case silent => exact fun hnone => outputs_rspValid_of_none (response_of_none hnone)

/-- Settles O38: what the client may not issue is refused, and of the rest each field has its few writers. -/
theorem clientWritesOnlyWhatItMay : Obligations.ClientWritesOnlyWhatItMay := by
  intro i s t hs h
  have hseq := seq_of_issuer_client hs
  have hsurr := exec_surroundings h
  obtain ⟨hpower, hwake⟩ := exec_power_of_cFun hseq h
  refine ⟨hpower, hwake, hsurr.seq, hsurr.long, ?history, ?clock, ?mask, ?lights⟩
  case history =>
    intro hunmask
    have hforeground : s.issuer ≠ .isr := by simp [hs]
    constructor
    · by_cases hreset : ∃ seed, i = .reset seed
      · obtain ⟨seed, rfl⟩ := hreset
        rw [exec_reset_client hs] at h
        cases h
        rfl
      · exact exec_sh hforeground h (not_exists.mp hreset) hunmask
    · by_cases hstart : i = .clkStart
      · subst hstart
        exact (exec_clkStart_tc h).imp_right fun htc => ⟨rfl, htc⟩
      · exact .inl (exec_tc h hstart hunmask)
  case clock =>
    intro hne
    by_contra hi
    obtain ⟨hstart, hstop⟩ := not_or.mp hi
    exact hne (exec_clkRun h hstart hstop)
  case mask =>
    intro hne
    by_contra hi
    obtain ⟨hmask, hunmask⟩ := not_or.mp hi
    exact hne (exec_tie h hmask hunmask)
  case lights =>
    intro hne
    by_contra hi
    obtain ⟨hoff, hset⟩ := not_or.mp hi
    exact hne (exec_led h hoff (not_exists.mp hset))

/-- Settles O43: the TICK handler writes the history, the count and the pending bit, the WAKE handler the power
state and its enable; neither reads what the other writes. -/
theorem interruptHandlersCommute : Obligations.InterruptHandlersCommute :=
  fun _ => rfl

end Sys2Proof.Proofs
end

section
/-! PROOFS. The foreground's step: its rules, each said once (which move is enabled, what the reference client does
around it, what a poll does), and the statements of 42_power_and_system.md and 43_pattern_engine.md that are single
foreground steps. -/

namespace Sys2Proof.Machine

/-! ### The turn a step takes -/

/-- A step runs its turn in the state with the turn taken and the pulses ended. -/
theorem step_eq_runTurn {s : State} {e : Turn} {es : List Turn} (h : s.turns = e :: es) :
    step s = runTurn e s.begin := by
  simp only [step, State.nextTurn, h, List.headD_cons]

/-- A foreground step is the enabled move, then the reference client's reaction to it. -/
theorem step_fg {s : State} {d : Drive} {es : List Turn} (h : s.turns = .fg d :: es) :
    step s = mapNext (runMove (fgMove (d.port s.begin) s.begin) s.begin) (clientAfter d s.begin) :=
  step_eq_runTurn h

/-! ### Which move is enabled -/

/-- The move of an awake, idle state (R130 to R141, R151). -/
def seqMove (p : Port) : SeqState → FgMove
  | .cStop     => .ctrl .clkStop .cLedoff
  | .cLedoff   => .ctrl .ledsOff .cSleep
  | .cSleep    => .armAndSleep
  | .cAsleep   => .resume
  | .cReseed   => .ctrl (.reset Config.seed) .cStart
  | .cStart    => .ctrl .clkStart .cSettleA
  | .cSettleA  => .ctrl (.waitPattern Config.aExp Config.aMask) .cSettleA
  | .cSettleB  => .ctrl (.waitPattern Config.bExp Config.bMask) .cSettleB
  | .cSettleC  => .ctrl (.waitPattern Config.cExp Config.cMask) .cSettleC
  | .cDispatch => .dispatch
  | .cFun      => if p.funDone then .handBack else if p.cmdValid then .accept p.cmd else .quiet
  | .unused _  => .stuck

theorem fgMove_idle {s : State} (hp : s.powerState = .active) (hb : s.busy = false) (p : Port) :
    fgMove p s = seqMove p s.seq := by
  unfold fgMove
  rw [hp, hb]
  cases s.seq <;> rfl

theorem fgMove_busy {s : State} (hp : s.powerState = .active) (hb : s.busy = true) (p : Port) :
    fgMove p s = .poll := by
  simp only [fgMove, hp, hb, if_true]

theorem fgMove_sleeping {s : State} (hp : s.powerState = .sleeping) (p : Port) : fgMove p s = .halted := by
  simp only [fgMove, hp]

/-- The enabled move depends on the port and on where the machine is alone. -/
theorem fgMove_congr {s t : State} (hp : t.powerState = s.powerState) (hb : t.busy = s.busy)
    (hq : t.seq = s.seq) (p : Port) : fgMove p t = fgMove p s := by
  simp only [fgMove, hp, hb, hq]

/-! ### What the reference client does around a foreground step -/

/-- The reference client's reaction writes its own state alone (log 19). -/
theorem clientAfter_eq (d : Drive) (s t : State) :
    clientAfter d s t = { t with client := (clientAfter d s t).client } := by
  unfold clientAfter
  split
  · rfl
  · split
    · rfl
    · split <;> rfl

/-- With the block as much in `C_FUN` as before, a client that does not drive the port stays where it is. -/
theorem clientAfter_ports {s t : State} (hq : t.seq = .cFun ↔ s.seq = .cFun) (p : Port) :
    clientAfter (.ports p) s t = t := by
  unfold clientAfter
  rw [if_neg (fun h => h.2 (hq.mp h.1)), if_neg (fun h => h.1 (hq.mpr h.2))]

/-- What such a client has on the port does not matter to the reference client (R150). -/
theorem clientAfter_ports_congr (p q : Port) (s t : State) :
    clientAfter (.ports p) s t = clientAfter (.ports q) s t := by
  simp only [clientAfter]

/-- A client that is given no result stays where it is, too. -/
theorem clientAfter_unanswered {s t : State} (hq : t.seq = .cFun ↔ s.seq = .cFun)
    (hr : t.response = none) (d : Drive) : clientAfter d s t = t := by
  unfold clientAfter
  rw [if_neg (fun h => h.2 (hq.mp h.1)), if_neg (fun h => h.1 (hq.mpr h.2))]
  split
  · next v hv => rw [response_of_client hv] at hr; cases hr
  · rfl

/-- The reference client, driving the port and answered, goes on (log 19). -/
theorem clientAfter_answered {s t : State} (hq : t.seq = .cFun ↔ s.seq = .cFun) {v : BitVec 8}
    (hv : t.answer = some ⟨.client, .done v⟩) :
    clientAfter .engine s t = { t with client := t.client.advance t.params v } := by
  unfold clientAfter
  rw [if_neg (fun h => h.2 (hq.mp h.1)), if_neg (fun h => h.1 (hq.mpr h.2)), hv]

/-- The client starts RUN_ALL in the step that enters `C_FUN` (log 20). -/
theorem clientAfter_enter {s t : State} (ht : t.seq = .cFun) (hs : s.seq ≠ .cFun) (d : Drive) :
    clientAfter d s t = { t with client := Client.start } := by
  unfold clientAfter
  rw [if_pos ⟨ht, hs⟩]

/-- The client is idle from the step that leaves `C_FUN` (log 20). -/
theorem clientAfter_leave {s t : State} (ht : t.seq ≠ .cFun) (hs : s.seq = .cFun) (d : Drive) :
    clientAfter d s t = { t with client := { t.client with pc := .idle } } := by
  unfold clientAfter
  rw [if_neg (fun h => ht h.1), if_pos ⟨ht, hs⟩]

/-- An outcome with no change of `seq` is passed on as it is to a client that does not drive the port. -/
theorem mapNext_clientAfter_ports {o : Host.Outcome State Fault Refusal} {s : State}
    (hq : ∀ t, o = .next t → t.seq = s.seq) (p : Port) : mapNext o (clientAfter (.ports p) s) = o := by
  cases o with
  | next t => rw [mapNext_next, clientAfter_ports (by rw [hq t rfl])]
  | fault r => cases r
  | refused r => rfl

/-! ### What a poll does -/

/-- Ending a wait, with the issuer it answers named (R46). -/
theorem finishWait_of_issuer {s : State} {x : Issuer} (h : s.issuer = x) (v : BitVec 8) :
    s.finishWait v = { s with busy := false, answer := some ⟨x, .done v⟩ } := by
  subst h
  rfl

theorem pollStep_waitTick {s : State} (h : s.curOp = 0x3#4) : pollStep s = pollWaitTick s := by
  simp only [pollStep, h]

theorem pollStep_delay {s : State} (h : s.curOp = 0x4#4) : pollStep s = pollDelay s := by
  simp only [pollStep, h]

/-- WAIT_TICK goes on until a tick has been counted (R84). -/
theorem pollStep_waitTick_waiting {s : State} (h : s.curOp = 0x3#4) (ht : s.tc = s.tRef) : pollStep s = s := by
  rw [pollStep_waitTick h, pollWaitTick, if_neg (not_not.mpr ht)]

theorem pollStep_waitTick_done {s : State} (h : s.curOp = 0x3#4) (ht : s.tc ≠ s.tRef) :
    pollStep s = s.finishWait 0x00#8 := by
  rw [pollStep_waitTick h, pollWaitTick, if_pos ht]

/-- DELAY goes on until the count has reached its target (R85). -/
theorem pollStep_delay_waiting {s : State} (h : s.curOp = 0x4#4) (ht : s.tc < s.tRef) : pollStep s = s := by
  rw [pollStep_delay h, pollDelay, if_neg (not_le.mpr ht)]

theorem pollStep_delay_done {s : State} (h : s.curOp = 0x4#4) (ht : s.tRef ≤ s.tc) :
    pollStep s = s.finishWait 0x00#8 := by
  rw [pollStep_delay h, pollDelay, if_pos ht]

/-- A WAIT_PATTERN poll that finds no match takes the zero test and nothing else (R103). -/
theorem pollStep_unmatched {s : State} (h : s.curOp = 0x7#4) (hb : s.busy = true)
    (hm : s.sh &&& s.opB ≠ s.opA) : pollStep s = s.observeZero s.sh := by
  have hpoll : pollWaitPattern s = s.observeZero s.sh := by
    simp [pollWaitPattern, patternHolds, hm]
  simp [pollStep, h, hpoll, hb]

/-- A WAIT_PATTERN that ends: the zero test, then its result to the issuer (R103). -/
def patternDone (s : State) : State :=
  { s with
    sawZero := s.sawZero || s.sh == 0x00#8
    busy    := false
    answer  := some ⟨s.issuer, .done (boolResult (s.sawZero || s.sh == 0x00#8))⟩ }

/-- A WAIT_PATTERN poll that finds a match ends the wait, and a settling wait then advances (R103, R130). -/
theorem pollStep_matched {s : State} (h : s.curOp = 0x7#4) (hm : s.sh &&& s.opB = s.opA) :
    pollStep s = settleAdvance (patternDone s) := by
  have hpoll : pollWaitPattern s = patternDone s := by
    simp only [pollWaitPattern, patternHolds, hm, beq_self_eq_true, if_true]
    rfl
  have hdone : (patternDone s).busy = false := rfl
  simp [pollStep, h, hpoll, hdone]

theorem settleAdvance_cFun {s : State} (h : s.seq = .cFun) : settleAdvance s = s := by
  simp only [settleAdvance, h]

theorem settleAdvance_cSettleA {s : State} (h : s.seq = .cSettleA) :
    settleAdvance s = { s with seq := .cSettleB } := by simp only [settleAdvance, h]

theorem settleAdvance_cSettleB {s : State} (h : s.seq = .cSettleB) :
    settleAdvance s = { s with seq := .cSettleC } := by simp only [settleAdvance, h]

theorem settleAdvance_cSettleC {s : State} (h : s.seq = .cSettleC) :
    settleAdvance s = { s with long := s.sawZero, seq := .cDispatch } := by
  simp only [settleAdvance, h, State.setLong]

section
variable {s : State} (h : s.curOp = 0x7#4) (hm : s.sh &&& s.opB = s.opA)
include h hm

theorem pollStep_matched_cFun (hq : s.seq = .cFun) : pollStep s = patternDone s :=
  (pollStep_matched h hm).trans (settleAdvance_cFun hq)

theorem pollStep_matched_cSettleA (hq : s.seq = .cSettleA) :
    pollStep s = { patternDone s with seq := .cSettleB } :=
  (pollStep_matched h hm).trans (settleAdvance_cSettleA hq)

theorem pollStep_matched_cSettleB (hq : s.seq = .cSettleB) :
    pollStep s = { patternDone s with seq := .cSettleC } :=
  (pollStep_matched h hm).trans (settleAdvance_cSettleB hq)

theorem pollStep_matched_cSettleC (hq : s.seq = .cSettleC) :
    pollStep s = { patternDone s with long := s.sawZero || s.sh == 0x00#8, seq := .cDispatch } :=
  (pollStep_matched h hm).trans (settleAdvance_cSettleC hq)

end

/-- Where the end of a wait leads: it leaves `long` and `seq` as they are, or goes on among the states in which the
clock runs (R136 to R138). -/
def WaitLeadsTo (s : State) (l : Bool) (q : SeqState) : Prop :=
  (l = s.long ∧ q = s.seq) ∨ (s.seq.clockOn = true ∧ q.clockOn = true)

theorem ne_cFun_of_clockOn {q : SeqState} (h : q.clockOn = true) : q ≠ .cFun := by
  rintro rfl
  cases h

theorem WaitLeadsTo.seq_cFun_iff {s : State} {l : Bool} {q : SeqState} (h : WaitLeadsTo s l q) :
    q = .cFun ↔ s.seq = .cFun := by
  obtain ⟨-, rfl⟩ | ⟨hs, hq⟩ := h
  · exact Iff.rfl
  · exact iff_of_false (ne_cFun_of_clockOn hq) (ne_cFun_of_clockOn hs)

theorem settleAdvance_eq (s : State) :
    ∃ l q, settleAdvance s = { s with long := l, seq := q } ∧ WaitLeadsTo s l q := by
  cases hq : s.seq with
  | cSettleA => exact ⟨_, _, settleAdvance_cSettleA hq, .inr ⟨by rw [hq]; rfl, rfl⟩⟩
  | cSettleB => exact ⟨_, _, settleAdvance_cSettleB hq, .inr ⟨by rw [hq]; rfl, rfl⟩⟩
  | cSettleC => exact ⟨_, _, settleAdvance_cSettleC hq, .inr ⟨by rw [hq]; rfl, rfl⟩⟩
  | _ =>
    have hstay : settleAdvance s = s := by simp only [settleAdvance, hq]
    exact ⟨s.long, s.seq, hstay, .inl ⟨rfl, rfl⟩⟩

/-- A poll goes on, with nothing but the zero test, or ends the wait with an answer to the issuer (R46). -/
theorem pollStep_cases {s : State} (hb : s.busy = true) :
    (∃ z, pollStep s = { s with sawZero := z }) ∨
    (∃ z l q v, pollStep s = { s with
        sawZero := z, busy := false, long := l, seq := q, answer := some ⟨s.issuer, .done v⟩ } ∧
      WaitLeadsTo s l q) := by
  by_cases htick : s.curOp = 0x3#4
  · by_cases ht : s.tc = s.tRef
    · exact .inl ⟨_, pollStep_waitTick_waiting htick ht⟩
    · exact .inr ⟨_, _, _, _, pollStep_waitTick_done htick ht, .inl ⟨rfl, rfl⟩⟩
  by_cases hdelay : s.curOp = 0x4#4
  · obtain ht | ht := lt_or_ge s.tc s.tRef
    · exact .inl ⟨_, pollStep_delay_waiting hdelay ht⟩
    · exact .inr ⟨_, _, _, _, pollStep_delay_done hdelay ht, .inl ⟨rfl, rfl⟩⟩
  by_cases hpattern : s.curOp = 0x7#4
  · by_cases hm : s.sh &&& s.opB = s.opA
    · obtain ⟨l, q, hadv, hq⟩ := settleAdvance_eq (patternDone s)
      rw [pollStep_matched hpattern hm, hadv]
      exact .inr ⟨_, _, _, _, rfl, hq⟩
    · exact .inl ⟨_, pollStep_unmatched hpattern hb hm⟩
  · exact .inl ⟨s.sawZero, by simp only [pollStep]⟩

theorem pollStep_client {s : State} (hb : s.busy = true) : (pollStep s).client = s.client := by
  obtain ⟨z, hz⟩ | ⟨z, l, q, v, hz, -⟩ := pollStep_cases hb <;> rw [hz]

theorem pollStep_params {s : State} (hb : s.busy = true) : (pollStep s).params = s.params := by
  obtain ⟨z, hz⟩ | ⟨z, l, q, v, hz, -⟩ := pollStep_cases hb <;> rw [hz]

theorem pollStep_seq_cFun_iff {s : State} (hb : s.busy = true) : (pollStep s).seq = .cFun ↔ s.seq = .cFun := by
  obtain ⟨z, hz⟩ | ⟨z, l, q, v, hz, hq⟩ := pollStep_cases hb <;> rw [hz]
  exact hq.seq_cFun_iff

/-- A poll that ends the wait answers the issuer with a result. -/
theorem pollStep_answer {s : State} (hb : s.busy = true) (ht : (pollStep s).busy = false) :
    ∃ v, (pollStep s).answer = some ⟨s.issuer, .done v⟩ := by
  obtain ⟨z, hz⟩ | ⟨z, l, q, v, hz, -⟩ := pollStep_cases hb
  · rw [hz, hb] at ht
    cases ht
  · exact ⟨v, congrArg State.answer hz⟩

end Sys2Proof.Machine
end

section
/-! PROOFS. The statements that are single foreground steps: words offered and placed (R65, R151), the waits' polls
(R46), the controller's transitions (42_power_and_system.md R131 to R141) and the reference client
(43_pattern_engine.md R153, R155). -/

namespace Sys2Proof.Machine

/-! ### Words -/

theorem issueWord_ok {w : OpWord} {i : Instr} (h : decode w = .ok i) (s : State) : issueWord w s = exec i s := by
  simp only [issueWord, h]

/-- In the acceptance step the word on the port is issued (R151). -/
theorem step_accept {s : State} {d : Drive} {es : List Turn} {w : OpWord} (h : s.turns = .fg d :: es)
    (hp : s.powerState = .active) (hb : s.busy = false) (hq : s.seq = .cFun)
    (hport : d.port s.begin = Port.offer w) :
    step s = mapNext (issueWord w s.begin) (clientAfter d s.begin) := by
  have hmove : fgMove (d.port s.begin) s.begin = .accept w := by
    rw [fgMove_idle (s := s.begin) hp hb, hport, begin_seq, hq]
    rfl
  rw [step_fg h, hmove]
  rfl

/-- From a client that is not the reference one, nothing is added to it. -/
theorem step_offer {s : State} {es : List Turn} {w : OpWord} (h : s.turns = .fg (.ports (Port.offer w)) :: es)
    (hp : s.powerState = .active) (hb : s.busy = false) (hq : s.seq = .cFun) :
    step s = issueWord w s.begin := by
  rw [step_accept h hp hb hq rfl]
  exact mapNext_clientAfter_ports (fun t ht => (issueWord_surroundings ht).seq) _

/-- The state `withFetchWord` leaves takes the word of `i` in its next step (log 3). -/
theorem step_withFetchWord (s : State) (i : Instr) :
    step (s.withFetchWord 24 (encode i).toNat) =
      wordStep (if opField (encode i) = 0xF#4 then .isr else s.fgIssuer) (encode i)
        { s with powerState := .active, busy := false, answer := none, evValid := false } := by
  have hword : wordOfTable 24 (encode i).toNat = some (encode i) := by
    have hlt : (encode i).toNat < 2 ^ 20 := (encode i).isLt
    have hmod : (encode i).toNat % 2 ^ 24 = (encode i).toNat := Nat.mod_eq_of_lt (by omega)
    rw [wordOfTable, hmod, if_pos hlt, BitVec.ofNat_toNat, BitVec.setWidth_eq]
  rw [State.withFetchWord, hword]
  rfl

theorem opField_encode_eq_F_iff (i : Instr) : opField (encode i) = 0xF#4 ↔ i = .sample := by
  cases i <;> simp [encode, opField_pack, opField_packL]

/-! ### Steps of the controller and of the polls -/

/-- A poll, then the reference client's reaction to it. -/
theorem step_poll {s : State} {d : Drive} {es : List Turn} (h : s.turns = .fg d :: es)
    (hp : s.powerState = .active) (hb : s.busy = true) :
    step s = .next (clientAfter d s.begin (pollStep s.begin)) := by
  rw [step_fg h, fgMove_busy (s := s.begin) hp hb]
  rfl

/-- A poll that answers nobody on the port leaves the reference client where it is. -/
theorem step_poll_unanswered {s u : State} {d : Drive} {es : List Turn} (h : s.turns = .fg d :: es)
    (hp : s.powerState = .active) (hb : s.busy = true) (hu : pollStep s.begin = u)
    (hr : u.response = none) : step s = .next u := by
  have hq : u.seq = .cFun ↔ s.begin.seq = .cFun := hu ▸ pollStep_seq_cFun_iff (s := s.begin) hb
  rw [step_poll h hp hb, hu, clientAfter_unanswered hq hr]

/-- A poll, with the reference client's new state left to the client's own matter. -/
theorem step_poll_withClient {s u : State} {d : Drive} {es : List Turn} (h : s.turns = .fg d :: es)
    (hp : s.powerState = .active) (hb : s.busy = true) (hu : pollStep s.begin = u) :
    step s = .next { u with client := (clientAfter d s.begin (pollStep s.begin)).client } := by
  subst hu
  rw [step_poll h hp hb]
  exact congrArg _ (clientAfter_eq d s.begin _)

/-- A step of the controller that moves within its own states: the reference client has no part in it. -/
theorem step_of_move {s u : State} {d : Drive} {es : List Turn} {m : FgMove} (h : s.turns = .fg d :: es)
    (hp : s.powerState = .active) (hb : s.busy = false) (hm : seqMove (d.port s.begin) s.seq = m)
    (hu : runMove m s.begin = .next u) (hq : u.seq = .cFun ↔ s.seq = .cFun) (hr : u.response = none) :
    step s = .next u := by
  rw [step_fg h, fgMove_idle (s := s.begin) hp hb, begin_seq, hm, hu, mapNext_next,
    clientAfter_unanswered (s := s.begin) hq hr]

/-- What the effect of an operation tells: nothing yet, or something to its issuer. -/
theorem effect_answer (i : Instr) (s : State) :
    (effect i s).answer = s.answer ∨ ∃ r, (effect i s).answer = some ⟨s.issuer, r⟩ := by
  cases i with
  | waitTick | delay | waitPattern => exact .inl rfl
  | sleep => obtain h | h := effect_sleep_cases s <;> exact .inr ⟨_, congrArg State.answer h⟩
  | tickUnmask => obtain h | h := effect_tickUnmask_cases s <;> exact .inr ⟨_, congrArg State.answer h⟩
  | _ => exact .inr ⟨_, rfl⟩

theorem exec_answer {i : Instr} {s t : State} (h : exec i s = .next t) :
    t.answer = s.answer ∨ ∃ r, t.answer = some ⟨s.issuer, r⟩ := by
  obtain ⟨-, rfl⟩ | ⟨-, rfl⟩ := exec_cases h
  · exact .inr ⟨_, rfl⟩
  · exact effect_answer i s

theorem issueWord_answer {w : OpWord} {s t : State} (h : issueWord w s = .next t) :
    t.answer = s.answer ∨ ∃ r, t.answer = some ⟨s.issuer, r⟩ := by
  obtain ⟨i, -, hi⟩ | ⟨c, -, rfl⟩ := issueWord_cases h
  · exact exec_answer hi
  · exact .inr ⟨_, rfl⟩

/-- Whatever the foreground does, it answers nobody or the one that issues. -/
theorem runMove_answer {m : FgMove} {s t : State} (hm : MoveBelongs s m) (h : runMove m s = .next t) :
    t.answer = s.answer ∨ ∃ r, t.answer = some ⟨s.issuer, r⟩ := by
  cases m with
  | poll =>
    obtain ⟨-, hb⟩ := hm
    cases h
    obtain ⟨z, hz⟩ | ⟨z, l, q, v, hz, -⟩ := pollStep_cases hb
    · exact .inl ((congrArg State.answer hz :))
    · exact .inr ⟨_, congrArg State.answer hz⟩
  | ctrl i n =>
    obtain ⟨u, hu, rfl⟩ := mapNext_eq_next h
    exact exec_answer (t := u) hu
  | accept w => exact issueWord_answer h
  | _ => cases h; exact .inl rfl

/-- Outside `C_FUN` no foreground step raises a response (log 10). -/
theorem step_fg_response {s t : State} {d : Drive} {es : List Turn} (h : s.turns = .fg d :: es)
    (hi : s.isr = false) (hq : s.seq ≠ .cFun) (ht : step s = .next t) : t.response = none := by
  rw [step_fg h] at ht
  obtain ⟨u, hu, rfl⟩ := mapNext_eq_next ht
  have hsame : (clientAfter d s.begin u).response = u.response := by rw [clientAfter_eq]; rfl
  rw [hsame]
  obtain ha | ⟨r, hr⟩ := runMove_answer (fgMove_belongs _ _) hu
  · exact response_of_none ha
  · rw [begin_issuer, issuer_ctrl hi hq] at hr
    exact response_of_other (by simp) hr

theorem step_fg_silent {s t : State} {d : Drive} {es : List Turn} (h : s.turns = .fg d :: es)
    (hi : s.isr = false) (hq : s.seq ≠ .cFun) (ht : step s = .next t) :
    t.response = none ∧ t.outputs.rspValid = false :=
  have hr := step_fg_response h hi hq ht
  ⟨hr, outputs_rspValid_of_none hr⟩

/-- An answer to the controller is not on the port (log 10). -/
theorem response_of_ctrl {s u : State} {r : Reply} (hi : s.isr = false) (hq : s.seq ≠ .cFun)
    (h : u.answer = some ⟨s.issuer, r⟩) : u.response = none := by
  rw [issuer_ctrl hi hq] at h
  exact response_of_other (by simp) h

/-- A controller's operation with its effect and the state it goes on to, in one step. -/
theorem step_ctrl {s : State} {d : Drive} {es : List Turn} {i : Instr} {n : SeqState} (h : s.turns = .fg d :: es)
    (hp : s.powerState = .active) (hb : s.busy = false) (hi : s.isr = false)
    (hm : seqMove (d.port s.begin) s.seq = .ctrl i n) (hmay : mayIssue .ctrl i = true) (hq : s.seq ≠ .cFun)
    (hn : n ≠ .cFun) : step s = .next { effect i s.begin with seq := n } := by
  have hissuer : s.begin.issuer = .ctrl := issuer_ctrl hi hq
  refine step_of_move h hp hb hm (u := { effect i s.begin with seq := n }) ?_ (by simp [hn, hq]) ?_
  · rw [runMove, exec_of_mayIssue (hissuer ▸ hmay), mapNext_next]
  · obtain ha | ⟨r, hr⟩ := effect_answer i s.begin
    · exact response_of_none ha
    · exact response_of_ctrl hi hq hr

/-! ### Which foreground steps write the history and the count (R24) -/

/-- A word taken issues the operation it spells. -/
theorem issues_accept {w : OpWord} {i : Instr} (h : decode w = .ok i) : (FgMove.accept w).issues = some i := by
  simp only [FgMove.issues, h, Except.toOption]

/-- The foreground writes `SH` by RESET and the deferred service alone. -/
theorem runMove_sh {m : FgMove} {s t : State} (hm : MoveBelongs s m) (hs : s.issuer ≠ .isr)
    (h : runMove m s = .next t) (hreset : ∀ seed, m.issues ≠ some (.reset seed))
    (hunmask : m.issues ≠ some .tickUnmask) : t.sh = s.sh := by
  cases m with
  | poll =>
    obtain ⟨-, hb⟩ := hm
    cases h
    obtain ⟨z, hz⟩ | ⟨z, l, q, v, hz, -⟩ := pollStep_cases hb <;> rw [hz]
  | ctrl i n =>
    obtain ⟨u, hu, rfl⟩ := mapNext_eq_next h
    exact exec_sh (t := u) hs hu (fun seed hi => hreset seed (congrArg some hi)) (fun hi => hunmask (congrArg some hi))
  | accept w =>
    obtain ⟨i, hw, hi⟩ | ⟨c, -, rfl⟩ := issueWord_cases h
    · rw [issues_accept hw] at hreset hunmask
      exact exec_sh hs hi (fun seed hi => hreset seed (congrArg some hi)) (fun hi => hunmask (congrArg some hi))
    · rfl
  | _ => cases h; rfl

/-- The foreground writes `TC` by CLK_START and the deferred service alone. -/
theorem runMove_tc {m : FgMove} {s t : State} (hm : MoveBelongs s m) (h : runMove m s = .next t)
    (hstart : m.issues ≠ some .clkStart) (hunmask : m.issues ≠ some .tickUnmask) : t.tc = s.tc := by
  cases m with
  | poll =>
    obtain ⟨-, hb⟩ := hm
    cases h
    obtain ⟨z, hz⟩ | ⟨z, l, q, v, hz, -⟩ := pollStep_cases hb <;> rw [hz]
  | ctrl i n =>
    obtain ⟨u, hu, rfl⟩ := mapNext_eq_next h
    exact exec_tc (t := u) hu (fun hi => hstart (congrArg some hi)) (fun hi => hunmask (congrArg some hi))
  | accept w =>
    obtain ⟨i, hw, hi⟩ | ⟨c, -, rfl⟩ := issueWord_cases h
    · rw [issues_accept hw] at hstart hunmask
      exact exec_tc hi (fun hi => hstart (congrArg some hi)) (fun hi => hunmask (congrArg some hi))
    · rfl
  | _ => cases h; rfl

/-- Between steps it is the foreground that issues (R180). -/
theorem issuer_ne_isr {s : State} (hi : s.isr = false) : s.issuer ≠ .isr := by
  by_cases hq : s.seq = .cFun
  · simp [issuer_client hi hq]
  · simp [issuer_ctrl hi hq]

/-! ### The reference client on the port -/

/-- At a place with an operation the reference client offers its word (R153). -/
theorem client_port_of_op {p : Params} {c : Client} {i : Instr} (h : c.op p = some i) :
    c.port p = Port.offer (encode i) := by
  simp only [Client.port, h]

/-- The step in which the reference client's operation is accepted. -/
theorem step_client_op {s : State} {es : List Turn} {i : Instr} (h : s.turns = .fg .engine :: es)
    (hp : s.powerState = .active) (hb : s.busy = false) (hq : s.seq = .cFun) (hi : s.isr = false)
    (hop : s.client.op s.params = some i) (hmay : mayIssue .client i = true) :
    step s = .next (clientAfter .engine s.begin (effect i s.begin)) := by
  have hissuer : s.begin.issuer = .client := issuer_client hi hq
  rw [step_accept h hp hb hq (w := encode i) (client_port_of_op hop), issueWord_ok (decode_encode i),
    exec_of_mayIssue (hissuer ▸ hmay), mapNext_next]

/-- The reference client enters its wait and stays at its place. -/
theorem step_client_wait {s : State} {es : List Turn} {i : Instr} (h : s.turns = .fg .engine :: es)
    (hp : s.powerState = .active) (hb : s.busy = false) (hq : s.seq = .cFun) (hi : s.isr = false)
    (hop : s.client.op s.params = some i) (hmay : mayIssue .client i = true)
    (hseq : (effect i s.begin).seq = s.seq) (hwait : (effect i s.begin).answer = none) :
    step s = .next (effect i s.begin) := by
  rw [step_client_op h hp hb hq hi hop hmay, clientAfter_unanswered (by rw [hseq]; rfl) (response_of_none hwait)]

theorem effect_ledSet_of_issuer {s : State} {x : Issuer} (h : s.issuer = x) (m : LedMask) :
    effect (.ledSet m) s = { s with led := m, answer := some ⟨x, .done 0x00#8⟩ } :=
  reply_of_issuer (s := { s with led := m }) h _

theorem effect_hasPattern_of_issuer {s : State} {x : Issuer} (h : s.issuer = x) (e m : Hist) :
    effect (.hasPattern e m) s =
      { s with answer := some ⟨x, .done (if s.sh &&& m = e then 0x01#8 else 0x00#8)⟩ } := by
  rw [effect, boolResult_patternHolds, reply_of_issuer h]

/-- The reference client is answered in the same step and goes on. -/
theorem step_client_answered {s u : State} {es : List Turn} {i : Instr} {v : BitVec 8} {c : Client}
    (h : s.turns = .fg .engine :: es) (hp : s.powerState = .active) (hb : s.busy = false) (hq : s.seq = .cFun)
    (hi : s.isr = false) (hop : s.client.op s.params = some i) (hmay : mayIssue .client i = true)
    (hu : effect i s.begin = u) (hseq : u.seq = s.seq) (hv : u.answer = some ⟨.client, .done v⟩)
    (hc : u.client.advance u.params v = c) : step s = .next { u with client := c } := by
  rw [step_client_op h hp hb hq hi hop hmay, hu, clientAfter_answered (by rw [hseq]; rfl) hv, hc]

/-- The end of the reference client's wait: the client goes on from the answer (R153, R155). -/
theorem client_of_finished_wait {s t : State} {es : List Turn} (h : s.turns = .fg .engine :: es)
    (hp : s.powerState = .active) (hb : s.busy = true) (hq : s.seq = .cFun) (hi : s.isr = false)
    (ht : step s = .next t) (hdone : t.busy = false) : ∃ v, t.client = s.client.advance s.params v := by
  have hissuer : s.begin.issuer = .client := issuer_client hi hq
  rw [step_poll_withClient h hp hb rfl] at ht
  cases ht
  obtain ⟨v, hv⟩ := pollStep_answer (s := s.begin) hb hdone
  rw [hissuer] at hv
  refine ⟨v, ?_⟩
  dsimp only
  rw [clientAfter_answered (pollStep_seq_cFun_iff (s := s.begin) hb) hv, pollStep_client (s := s.begin) hb,
    pollStep_params (s := s.begin) hb]
  rfl

end Sys2Proof.Machine

namespace Sys2Proof.Proofs

open Sys2Proof.Machine

/-- Settles O7: the acceptance step issues the word, and a client that is not the reference one adds nothing. -/
theorem offeredWordRunsItsInstruction : Obligations.OfferedWordRunsItsInstruction := by
  intro s w es h hp hb hq hi
  rw [step_offer h hp hb hq]
  constructor
  · exact fun i hw => issueWord_ok hw _
  · intro c hc
    rw [issueWord_reserved hc, refuse_of_issuer (s := s.begin) (issuer_client hi hq)]

/-- Settles O8: the word turn `withFetchWord` schedules is taken from the foreground's context, and SAMPLE's from
the handler's. -/
theorem placedWordRunsItsInstruction : Obligations.PlacedWordRunsItsInstruction := by
  intro s i _
  rw [step_withFetchWord]
  constructor
  · intro hsample
    rw [if_neg (mt (opField_encode_eq_F_iff i).mp hsample)]
    have htaken : ∀ t : State, t.powerState = .active → t.busy = false → t.fgIssuer = s.fgIssuer →
        wordStep s.fgIssuer (encode i) t = exec i t := by
      intro t hp hb hx
      unfold wordStep
      split
      · next hisr => unfold State.fgIssuer at hisr; split at hisr <;> cases hisr
      all_goals
        next hfg => rw [if_pos ⟨hp, hb, hfg ▸ hx.symm⟩, issueWord_ok (decode_encode i)]
    exact htaken _ rfl rfl rfl
  · rintro rfl
    rfl

/-- Settles O32: asleep the enabled move is to stay halted (R44). -/
theorem sleepingForegroundIsHalted : Obligations.SleepingForegroundIsHalted := by
  intro s d es h hp
  rw [step_fg h, fgMove_sleeping (s := s.begin) hp]
  exact congrArg _ (clientAfter_unanswered Iff.rfl rfl d)

/-- Settles O41: in a wait, or asleep, the enabled move does not look at the port. -/
theorem busyForegroundIgnoresThePort : Obligations.BusyForegroundIgnoresThePort := by
  intro s p q es hb
  have hmove : ∀ u : State, u.busy = true → fgMove p u = fgMove q u := by
    intro u hu
    cases hp : u.powerState with
    | sleeping => rw [fgMove_sleeping hp, fgMove_sleeping hp]
    | active => rw [fgMove_busy hp hu, fgMove_busy hp hu]
  rw [step_fg (s := { s with turns := .fg (.ports p) :: es }) rfl,
    step_fg (s := { s with turns := .fg (.ports q) :: es }) rfl]
  exact congrArg₂ mapNext (congrArg₂ runMove (hmove _ hb) rfl) (funext fun t => clientAfter_ports_congr p q _ t)

/-- Settles O21: C_STOP and C_LEDOFF issue an operation whose answer is the controller's, C_SLEEP writes directly. -/
theorem goToSleepTransitions : Obligations.GoToSleepTransitions := by
  intro s d es h hp hb hi
  refine ⟨?stop, ?ledoff, ?sleep, fun hq t => step_fg_silent h hi hq⟩
  case stop =>
    intro hq
    exact ⟨_, step_ctrl (i := .clkStop) (n := .cLedoff) h hp hb hi (by rw [hq]; rfl) rfl (by simp [hq]) (by simp)⟩
  case ledoff =>
    intro hq
    exact ⟨_, step_ctrl (i := .ledsOff) (n := .cSleep) h hp hb hi (by rw [hq]; rfl) rfl (by simp [hq]) (by simp)⟩
  case sleep =>
    intro hq
    exact step_of_move (m := .armAndSleep) h hp hb (by rw [hq]; rfl) rfl (by simp [hq]) rfl

/-- Settles O22: the resume writes `seq` alone, C_RESEED and C_START issue an operation. -/
theorem wakeUpTransitions : Obligations.WakeUpTransitions := by
  intro s d es h hp hb hi
  refine ⟨?resume, ?reseed, ?start, fun hq t => step_fg_silent h hi hq⟩
  case resume =>
    intro hq
    exact step_of_move (m := .resume) h hp hb (by rw [hq]; rfl) rfl (by simp [hq]) rfl
  case reseed =>
    intro hq
    exact ⟨_, step_ctrl (i := .reset Config.seed) (n := .cStart) h hp hb hi (by rw [hq]; rfl) rfl (by simp [hq]) (by simp)⟩
  case start =>
    intro hq
    exact ⟨_, step_ctrl (i := .clkStart) (n := .cSettleA) h hp hb hi (by rw [hq]; rfl) rfl (by simp [hq]) (by simp)⟩

/-- Settles O23: each settling state issues its WAIT_PATTERN, whose effect is the entry step, and stays. -/
theorem settlingStatesEnterTheirWaits : Obligations.SettlingStatesEnterTheirWaits := by
  intro s d es h hp hb hi
  have henter : ∀ e m, s.seq ≠ .cFun → seqMove (d.port s.begin) s.seq = .ctrl (.waitPattern e m) s.seq →
      step s = .next { s.begin with sawZero := false, opA := e, opB := m, curOp := 0x7#4, busy := true } :=
    fun e m hq hm => step_ctrl h hp hb hi hm rfl hq hq
  refine ⟨fun hq => ?_, fun hq => ?_, fun hq => ?_⟩
  all_goals exact henter _ _ (by simp [hq]) (by rw [hq]; rfl)

/-- Settles O20: the poll's completion test decides, and `c` is where the reference client is after the poll. -/
theorem pollStepsOfTheThreeWaits : Obligations.PollStepsOfTheThreeWaits := by
  intro s d es h hp hb hq hi
  have hissuer : s.begin.issuer = .client := issuer_client hi hq
  refine ⟨(clientAfter d s.begin (pollStep s.begin)).client, ?ports, ?waitTick, ?delay, ?waitPattern⟩
  case ports =>
    rintro p rfl
    rw [clientAfter_ports (pollStep_seq_cFun_iff (s := s.begin) hb), pollStep_client (s := s.begin) hb, begin_client]
  case waitTick =>
    intro hop
    by_cases ht : s.tc = s.tRef
    · rw [if_neg (not_not.mpr ht)]
      exact step_poll_unanswered h hp hb (pollStep_waitTick_waiting (s := s.begin) hop ht) rfl
    · rw [if_pos ht]
      have hdone := pollStep_waitTick_done (s := s.begin) hop ht
      exact step_poll_withClient h hp hb (hdone.trans (finishWait_of_issuer hissuer _))
  case delay =>
    intro hop
    obtain ht | ht := lt_or_ge s.tc s.tRef
    · rw [if_neg (not_le.mpr ht)]
      exact step_poll_unanswered h hp hb (pollStep_delay_waiting (s := s.begin) hop ht) rfl
    · rw [if_pos ht]
      have hdone := pollStep_delay_done (s := s.begin) hop ht
      exact step_poll_withClient h hp hb (hdone.trans (finishWait_of_issuer hissuer _))
  case waitPattern =>
    intro hop
    by_cases hm : s.sh &&& s.opB = s.opA
    · dsimp only
      rw [if_pos hm]
      have hdone : patternDone s.begin = { s.begin with
          sawZero := s.sawZero || s.sh == 0x00#8, busy := false
          answer := some ⟨.client, .done (boolResult (s.sawZero || s.sh == 0x00#8))⟩ } := by
        rw [patternDone, hissuer]
        rfl
      exact step_poll_withClient h hp hb ((pollStep_matched_cFun (s := s.begin) hop hm hq).trans hdone)
    · dsimp only
      rw [if_neg hm]
      exact step_poll_unanswered h hp hb (pollStep_unmatched (s := s.begin) hop hb hm) rfl

/-- Settles O24: the completing poll of each settling state, and the one that finds no match. -/
theorem settlingWaitCompletionAdvances : Obligations.SettlingWaitCompletionAdvances := by
  intro s d es h hp hb hi hop
  refine ⟨fun hm => ⟨fun hq => ?_, fun hq => ?_, fun hq => ?_⟩,
    fun hm => step_poll_unanswered h hp hb (pollStep_unmatched (s := s.begin) hop hb hm) rfl,
    fun hq t => step_fg_silent h hi hq⟩
  · have hdone := pollStep_matched_cSettleA (s := s.begin) hop hm hq
    exact ⟨_, step_poll_unanswered h hp hb hdone (response_of_ctrl hi (by simp [hq]) rfl)⟩
  · have hdone := pollStep_matched_cSettleB (s := s.begin) hop hm hq
    exact ⟨_, step_poll_unanswered h hp hb hdone (response_of_ctrl hi (by simp [hq]) rfl)⟩
  · have hdone := pollStep_matched_cSettleC (s := s.begin) hop hm hq
    exact ⟨_, step_poll_unanswered h hp hb hdone (response_of_ctrl hi (by simp [hq]) rfl)⟩

/-- Settles O25: the dispatch goes by `long`, and the reference client starts where the block enters `C_FUN`. -/
theorem dispatchEmitsThePressAndChooses : Obligations.DispatchEmitsThePressAndChooses := by
  intro s d es h hp hb hi hq
  have hstep : step s = .next (clientAfter d s.begin (dispatch s.begin)) := by
    rw [step_fg h, fgMove_idle (s := s.begin) hp hb, begin_seq, hq]
    rfl
  refine ⟨fun hl => ?short, fun hl => ?long, fun t ht => ?event⟩
  case short =>
    have hd : dispatch s.begin = { s.begin with evValid := true, seq := .cStop } := by simp [dispatch, hl]
    rw [hstep, hd, clientAfter_unanswered (by simp [hq]) rfl]
  case long =>
    have hd : dispatch s.begin = { s.begin with evValid := true, seq := .cFun } := by simp [dispatch, hl]
    rw [hstep, hd, clientAfter_enter rfl (by simp [hq])]
    rfl
  case event =>
    rw [hstep] at ht
    cases ht
    rw [clientAfter_eq]
    exact ⟨rfl, rfl⟩

/-- Settles O26: the move in `C_FUN` looks at `fun_done` before the word, and with neither it is none. -/
theorem handBackWinsOverAnOfferedWord : Obligations.HandBackWinsOverAnOfferedWord := by
  intro s p es h hp hb hq
  have hmove : fgMove p s.begin = if p.funDone then .handBack else if p.cmdValid then .accept p.cmd else .quiet := by
    rw [fgMove_idle (s := s.begin) hp hb, begin_seq, hq]
    rfl
  rw [step_fg h, Drive.port, hmove]
  constructor
  · intro hdone
    rw [if_pos hdone]
    exact ⟨_, congrArg Host.Outcome.next
      (clientAfter_leave (s := s.begin) (t := { s.begin with seq := .cStop }) (by simp) hq _)⟩
  · intro hdone hvalid
    rw [if_neg (by simp [hdone]), if_neg (by simp [hvalid])]
    exact congrArg _ (clientAfter_ports Iff.rfl p)

/-- Settles O59: at each place with an operation the word offered is accepted and its effect happens; an answer,
in that step or at the end of the wait, moves the client on by `Client.advance`. -/
theorem referenceClientRunsItsSequence : Obligations.ReferenceClientRunsItsSequence := by
  refine ⟨fun s es h hp hb hq hi => ⟨?wait, ?tick, ?draw, ?test, ?finished⟩, fun s t es h hp hb hq hi ht hdone => ?ends⟩
  case wait =>
    intro hpc
    refine step_client_wait h hp hb hq hi (i := .waitPattern 0xFF#8 0xFF#8) ?_ rfl rfl rfl
    obtain hpc | hpc := hpc <;> simp only [Client.op, hpc] <;> rfl
  case tick =>
    intro hpc
    refine step_client_wait h hp hb hq hi (i := .waitTick) ?_ rfl rfl rfl
    obtain hpc | hpc := hpc <;> simp only [Client.op, hpc]
  case draw =>
    intro hpc
    have hled := effect_ledSet_of_issuer (s := s.begin) (issuer_client hi hq)
      (frame s.params s.client.patIdx s.client.phase)
    refine step_client_answered h hp hb hq hi (by simp only [Client.op, hpc]) rfl hled rfl rfl ?_
    simp only [Client.advance, begin_client, hpc]
    rfl
  case test =>
    intro hpc
    have hop : s.client.op s.params = some (.hasPattern s.params.tapExp s.params.tapMask) := by
      simp only [Client.op, hpc]
    have htest := effect_hasPattern_of_issuer (s := s.begin) (issuer_client hi hq) s.params.tapExp s.params.tapMask
    by_cases hm : s.sh &&& s.params.tapMask = s.params.tapExp
    · rw [begin_sh, if_pos hm] at htest
      rw [if_pos hm]
      refine step_client_answered h hp hb hq hi hop rfl htest rfl rfl ?_
      simp only [Client.advance, begin_client, hpc]
      rfl
    · rw [begin_sh, if_neg hm] at htest
      rw [if_neg hm]
      refine step_client_answered h hp hb hq hi hop rfl htest rfl rfl ?_
      simp only [Client.advance, begin_client, hpc]
      rfl
  case finished =>
    intro hpc
    have hport : s.client.port s.params = Port.finished := by simp [Client.port, Client.op, hpc]
    have hmove : fgMove (Drive.port .engine s.begin) s.begin = .handBack := by
      rw [fgMove_idle (s := s.begin) hp hb, begin_seq, hq]
      simp only [Drive.port, begin_client, begin_params, hport]
      rfl
    rw [step_fg h, hmove]
    exact congrArg Host.Outcome.next
      (clientAfter_leave (s := s.begin) (t := { s.begin with seq := .cStop }) (by simp) hq _)
  case ends =>
    obtain ⟨v, hv⟩ := client_of_finished_wait h hp hb hq hi ht hdone
    rw [hv]
    refine ⟨fun hpc => ?_, fun hpc => ?_, fun hpc => ?_, fun hpc hnext => ?_, fun hpc hlast => ?_⟩
    · simp only [Client.advance, hpc]
    · simp only [Client.advance, hpc]
    · simp only [Client.advance, hpc]
    · simp only [Client.advance, hpc, if_pos hnext]
    · simp only [Client.advance, hpc, if_neg hlast]

/-- Settles O39: the enabled move's writes, and a pin change touches neither register. -/
theorem foregroundWritesHistoryOnlyByReset : Obligations.ForegroundWritesHistoryOnlyByReset := by
  constructor
  · intro s t d es h hi ht i hunmask
    rw [step_fg h] at ht
    obtain ⟨u, hu, rfl⟩ := mapNext_eq_next ht
    rw [clientAfter_eq]
    have hm := fgMove_belongs (d.port s.begin) s.begin
    exact ⟨fun hreset => runMove_sh (s := s.begin) (t := u) hm (issuer_ne_isr (s := s.begin) hi) hu hreset hunmask,
      fun hstart => runMove_tc (s := s.begin) (t := u) hm hu hstart hunmask⟩
  · intro s t b es h ht
    rw [step_eq_runTurn h] at ht
    cases ht
    obtain ⟨-, -, -, hu⟩ | ⟨-, hu⟩ := pinStep_cases s.begin b <;> rw [hu] <;> exact ⟨rfl, rfl⟩

end Sys2Proof.Proofs
end

section
/-! PROOFS. The invariant of the fixed controller: `Inv` taken apart by what each clause rests on (the power order of
10_state.md R25, the widths, the sequence, the reference client), each part kept by every turn of the hardware. -/

namespace Sys2Proof.Machine

/-! ### What the allowed parameters give (00_scope.md R7) -/

section
variable {p : Params} (h : p.wellFormed = true)
include h

theorem eight_le_tickW : 8 ≤ p.tickW := by
  simp only [Params.wellFormed, Bool.and_eq_true, decide_eq_true_eq] at h
  exact h.1.1.1.1

theorem four_le_tickDiv : 4 ≤ p.tickDiv := by
  simp only [Params.wellFormed, Bool.and_eq_true, decide_eq_true_eq] at h
  exact h.1.1.1.2

theorem npat_pos : 0 < npat p := by
  simp only [Params.wellFormed, Bool.and_eq_true, decide_eq_true_eq] at h
  exact h.1.2

theorem period_pos {idx : Nat} (hidx : idx < npat p) : 0 < period p idx := by
  simp only [Params.wellFormed, Bool.and_eq_true, List.all_eq_true, decide_eq_true_eq] at h
  have hget : p.patterns.getD idx [] = p.patterns[idx] := List.getD_eq_getElem _ _ hidx
  rw [period, hget]
  exact h.2 _ (List.getElem_mem hidx)

end

theorem tickMod_lt (p : Params) (v : Nat) : tickMod p v < 2 ^ p.tickW :=
  Nat.mod_lt _ (Nat.two_pow_pos _)

/-! ### The widths (log 8), the parameters and the edge detector -/

/-- The parameters are allowed ones, the counters are within their widths, and the edge detector has seen the
pin. -/
structure WordBounds (s : State) : Prop where
  params_ok : s.params.wellFormed = true
  tc_lt : s.tc < 2 ^ s.params.tickW
  tRef_lt : s.tRef < 2 ^ s.params.tickW
  presc_lt : s.presc < s.params.tickDiv
  pin_seen : s.btnPrev = s.btnRaw

namespace WordBounds

/-- What changes none of these fields keeps their bounds. -/
theorem of_eq {s t : State} (h : WordBounds s) (hparams : t.params = s.params) (htc : t.tc = s.tc)
    (htRef : t.tRef = s.tRef) (hpresc : t.presc = s.presc) (hraw : t.btnRaw = s.btnRaw)
    (hprev : t.btnPrev = s.btnPrev) : WordBounds t where
  params_ok := hparams ▸ h.params_ok
  tc_lt := by rw [htc, hparams]; exact h.tc_lt
  tRef_lt := by rw [htRef, hparams]; exact h.tRef_lt
  presc_lt := by rw [hpresc, hparams]; exact h.presc_lt
  pin_seen := by rw [hprev, hraw]; exact h.pin_seen

theorem tickHandler {s : State} (h : WordBounds s) : WordBounds (Machine.tickHandler s) :=
  { h with tc_lt := tickMod_lt _ _ }

theorem effect {s : State} (h : WordBounds s) (i : Instr) : WordBounds (Machine.effect i s) := by
  cases i with
  | clkStart =>
    have hpresc : 0 < s.params.tickDiv := Nat.zero_lt_of_lt (four_le_tickDiv h.params_ok)
    exact { h with tc_lt := Nat.two_pow_pos _, presc_lt := hpresc }
  | waitTick => exact { h with tRef_lt := h.tc_lt }
  | delay n => exact { h with tRef_lt := tickMod_lt _ _ }
  | sleep => obtain hs | hs := effect_sleep_cases s <;> rw [hs] <;> exact h.of_eq rfl rfl rfl rfl rfl rfl
  | tickUnmask =>
    have hunmasked : WordBounds { s with tie := true } := h.of_eq rfl rfl rfl rfl rfl rfl
    obtain hs | hs := effect_tickUnmask_cases s <;> rw [hs]
    · exact hunmasked.of_eq rfl rfl rfl rfl rfl rfl
    · exact hunmasked.tickHandler.of_eq rfl rfl rfl rfl rfl rfl
  | _ => exact h.of_eq rfl rfl rfl rfl rfl rfl

theorem exec {s t : State} (h : WordBounds s) {i : Instr} (ht : Machine.exec i s = .next t) : WordBounds t := by
  obtain ⟨-, rfl⟩ | ⟨-, rfl⟩ := exec_cases ht
  · exact h.of_eq rfl rfl rfl rfl rfl rfl
  · exact h.effect i

theorem runMove {s t : State} (h : WordBounds s) {m : FgMove} (hm : MoveBelongs s m)
    (ht : Machine.runMove m s = .next t) : WordBounds t := by
  cases m with
  | poll =>
    obtain ⟨-, hb⟩ := hm
    cases ht
    obtain ⟨z, hz⟩ | ⟨z, l, q, v, hz, -⟩ := pollStep_cases hb <;> rw [hz] <;>
      exact h.of_eq rfl rfl rfl rfl rfl rfl
  | ctrl i n =>
    obtain ⟨u, hu, rfl⟩ := mapNext_eq_next ht
    exact (h.exec hu).of_eq rfl rfl rfl rfl rfl rfl
  | accept w =>
    obtain ⟨i, -, hi⟩ | ⟨c, -, rfl⟩ := issueWord_cases ht
    · exact h.exec hi
    · exact h.of_eq rfl rfl rfl rfl rfl rfl
  | _ => cases ht; exact h.of_eq rfl rfl rfl rfl rfl rfl

end WordBounds

/-! ### The sequence -/

/-- Where `seq` is says what the clock, the lights and a wait in progress are (R130, R143, R21, R125, R139). -/
structure SequenceOrder (s : State) : Prop where
  seq_used : ∀ k, s.seq ≠ .unused k
  armed_idle : s.powerState = .sleeping → s.wakeEn = true ∧ s.busy = false
  clock_on : s.seq.clockOn = true → s.clkRun = true
  lights_dark : s.seq.dark = true → s.led = Config.ledOff
  wait_belongs : s.busy = true → waitBelongs s = true
  pending : s.tickPend = true → s.clkRun = true ∧ s.tie = false
  fun_long : s.seq = .cFun → s.long = true

/-- The clock runs among dark states only, and the client's is none of them (R130). -/
theorem dark_of_clockOn {q : SeqState} (h : q.clockOn = true) : q.dark = true := by
  cases q <;> simp [SeqState.clockOn, SeqState.dark] at h ⊢

theorem ne_unused_of_clockOn {q : SeqState} (h : q.clockOn = true) (k : Fin 5) : q ≠ .unused k := by
  rintro rfl
  cases h

/-- A client's wait in progress is one of the three (R21). -/
theorem waitBelongs_cFun {s : State} (hq : s.seq = .cFun) :
    waitBelongs s = (s.curOp == 0x3#4 || s.curOp == 0x4#4 || s.curOp == 0x7#4) := by
  simp only [waitBelongs, hq]

/-- A settling wait in progress is the one of its state (R136 to R138). -/
theorem waitBelongs_settle {s : State} (hop : s.curOp = 0x7#4)
    (hw : s.seq.settleWait = some (s.opA, s.opB)) : waitBelongs s = true := by
  cases hq : s.seq <;> rw [hq] at hw <;> simp [waitBelongs, hq, hop, hw]

/-- A client's operation that leaves a wait in progress has entered it. -/
theorem effect_curOp {i : Instr} {s : State} (hb : s.busy = false) (h : (effect i s).busy = true) :
    (effect i s).curOp = 0x3#4 ∨ (effect i s).curOp = 0x4#4 ∨ (effect i s).curOp = 0x7#4 := by
  cases i with
  | waitTick => exact .inl rfl
  | delay n => exact .inr (.inl rfl)
  | waitPattern e m => exact .inr (.inr rfl)
  | sleep => obtain hs | hs := effect_sleep_cases s <;> rw [hs] at h <;> exact absurd (hb.symm.trans h) (by simp)
  | tickUnmask =>
    obtain hs | hs := effect_tickUnmask_cases s <;> rw [hs] at h <;> exact absurd (hb.symm.trans h) (by simp)
  | _ => exact absurd (hb.symm.trans h) (by simp)

/-- No operation leaves a tick pending that is not masked, or whose clock is stopped (R82, R83, R125). -/
theorem effect_pending {i : Instr} {s : State} (hs : s.tickPend = true → s.clkRun = true ∧ s.tie = false)
    (h : (effect i s).tickPend = true) : (effect i s).clkRun = true ∧ (effect i s).tie = false := by
  cases i with
  | clkStart | clkStop => cases h
  | tickMask =>
    obtain ⟨hclk, -⟩ := hs h
    exact ⟨hclk, rfl⟩
  | sleep => obtain he | he := effect_sleep_cases s <;> rw [he] at h ⊢ <;> exact hs h
  | tickUnmask =>
    cases hp : s.tickPend with
    | false => rw [effect_tickUnmask_idle hp] at h; exact absurd (hp.symm.trans h) (by simp)
    | true => rw [effect_tickUnmask_pending hp] at h; cases h
  | _ => exact hs h

namespace SequenceOrder

/-- Awake, what is left is where `seq` is. -/
theorem of_awake {t : State} (hp : t.powerState = .active) (hused : ∀ k, t.seq ≠ .unused k)
    (hon : t.seq.clockOn = true → t.clkRun = true) (hdark : t.seq.dark = true → t.led = Config.ledOff)
    (hwait : t.busy = true → waitBelongs t = true) (hpend : t.tickPend = true → t.clkRun = true ∧ t.tie = false)
    (hfun : t.seq = .cFun → t.long = true) : SequenceOrder t :=
  ⟨hused, fun h => absurd (hp.symm.trans h) (by simp), hon, hdark, hwait, hpend, hfun⟩

/-- A poll that ends the wait leaves `seq` or goes on among the states in which the clock runs (R136 to R138). -/
theorem pollStep {s : State} (h : SequenceOrder s) (hp : s.powerState = .active) (hb : s.busy = true) :
    SequenceOrder (Machine.pollStep s) := by
  obtain ⟨z, hz⟩ | ⟨z, l, q, v, hz, ⟨rfl, rfl⟩ | ⟨hs, hq⟩⟩ := pollStep_cases hb <;> rw [hz]
  · exact ⟨h.seq_used, h.armed_idle, h.clock_on, h.lights_dark, h.wait_belongs, h.pending, h.fun_long⟩
  · exact of_awake hp h.seq_used h.clock_on h.lights_dark nofun h.pending h.fun_long
  · exact of_awake hp (ne_unused_of_clockOn hq) (fun _ => h.clock_on hs)
      (fun _ => h.lights_dark (dark_of_clockOn hs)) nofun h.pending
      (fun hfun => absurd hfun (ne_cFun_of_clockOn hq))

/-- The controller's operations and the states they lead to (R131 to R138). -/
theorem ctrl {s u : State} (h : SequenceOrder s) (hi : s.isr = false) {i : Instr} {n : SeqState}
    (hm : MoveBelongs s (.ctrl i n)) (hu : exec i s = .next u) : SequenceOrder { u with seq := n } := by
  obtain ⟨hp, hb, hmoves⟩ := hm
  have hdone : ∀ j, s.seq ≠ .cFun → mayIssue .ctrl j = true → exec j s = .next u → u = Machine.effect j s := by
    intro j hq hmay hj
    rw [exec_of_mayIssue (issuer_ctrl hi hq ▸ hmay)] at hj
    cases hj
    rfl
  have hfree : ¬s.busy = true := by simp [hb]
  obtain ⟨hq, rfl, rfl⟩ | ⟨hq, rfl, rfl⟩ | ⟨hq, rfl, rfl⟩ | ⟨hq, rfl, rfl⟩ | ⟨e, m, hw, rfl, rfl⟩ := hmoves
  · obtain rfl := hdone _ (by simp [hq]) rfl hu
    exact of_awake hp (by simp) nofun nofun (fun hb => absurd hb hfree)
      nofun nofun
  · obtain rfl := hdone _ (by simp [hq]) rfl hu
    exact of_awake hp (by simp) nofun (fun _ => rfl) (fun hb => absurd hb hfree)
      h.pending nofun
  · obtain rfl := hdone _ (by simp [hq]) rfl hu
    exact of_awake hp (by simp) nofun (fun _ => h.lights_dark (by rw [hq]; rfl))
      (fun hb => absurd hb hfree) h.pending nofun
  · obtain rfl := hdone _ (by simp [hq]) rfl hu
    exact of_awake hp (by simp) (fun _ => rfl) (fun _ => h.lights_dark (by rw [hq]; rfl))
      (fun hb => absurd hb hfree) nofun nofun
  · have hq : s.seq ≠ .cFun := by
      rintro hq
      rw [hq] at hw
      cases hw
    obtain rfl := hdone _ hq rfl hu
    exact of_awake hp h.seq_used h.clock_on h.lights_dark (fun _ => waitBelongs_settle rfl hw) h.pending
      h.fun_long

/-- A client's operation stays in `C_FUN` (R180). -/
theorem issueWord {s t : State} (h : SequenceOrder s) (hp : s.powerState = .active) (hb : s.busy = false)
    (hq : s.seq = .cFun) {w : OpWord} (ht : Machine.issueWord w s = .next t) : SequenceOrder t := by
  obtain ⟨i, -, hi⟩ | ⟨c, -, rfl⟩ := issueWord_cases ht
  · have hsurr := exec_surroundings hi
    have hpower := (exec_power_of_cFun hq hi).1
    have hseq : t.seq = .cFun := hsurr.seq.trans hq
    have heffect : (t.busy = true → waitBelongs t = true) ∧
        (t.tickPend = true → t.clkRun = true ∧ t.tie = false) := by
      rw [waitBelongs_cFun hseq]
      obtain ⟨-, rfl⟩ | ⟨-, rfl⟩ := exec_cases hi
      · exact ⟨fun hb' => absurd (hb.symm.trans hb') (by simp), h.pending⟩
      · exact ⟨fun hb' => by simpa [or_assoc] using effect_curOp hb hb', effect_pending h.pending⟩
    refine of_awake (hpower.trans hp) (by simp [hseq]) ?_ ?_ heffect.1 heffect.2 ?_
    · exact fun hc => absurd hc (by rw [hseq]; simp [SeqState.clockOn])
    · exact fun hc => absurd hc (by rw [hseq]; simp [SeqState.dark])
    · exact fun _ => hsurr.long.trans (h.fun_long hq)
  · exact ⟨h.seq_used, h.armed_idle, h.clock_on, h.lights_dark, h.wait_belongs, h.pending, h.fun_long⟩

theorem runMove {s t : State} (h : SequenceOrder s) (hi : s.isr = false) {m : FgMove} (hm : MoveBelongs s m)
    (ht : Machine.runMove m s = .next t) : SequenceOrder t := by
  cases m with
  | halted => cases ht; exact h
  | poll =>
    obtain ⟨hp, hb⟩ := hm
    cases ht
    exact h.pollStep hp hb
  | ctrl i n =>
    obtain ⟨u, hu, rfl⟩ := mapNext_eq_next ht
    exact h.ctrl hi hm hu
  | armAndSleep =>
    obtain ⟨-, hb, hq⟩ := hm
    cases ht
    exact ⟨by simp, fun _ => ⟨rfl, hb⟩, nofun, fun _ => h.lights_dark (by rw [hq]; rfl),
      fun hb' => absurd (hb.symm.trans hb') (by simp), h.pending, nofun⟩
  | resume =>
    obtain ⟨hp, hb, hq⟩ := hm
    cases ht
    exact of_awake hp (by simp) nofun (fun _ => h.lights_dark (by rw [hq]; rfl))
      (fun hb' => absurd (hb.symm.trans hb') (by simp)) h.pending nofun
  | dispatch =>
    obtain ⟨hp, hb, -⟩ := hm
    cases ht
    have hidle : ¬s.busy = true := by simp [hb]
    obtain hl | hl := Bool.eq_false_or_eq_true s.long
    · have hd : Machine.dispatch s = { s with evValid := true, seq := .cFun } := by simp [Machine.dispatch, hl]
      rw [hd]
      exact of_awake hp nofun nofun nofun (fun hb' => absurd hb' hidle) h.pending (fun _ => hl)
    · have hd : Machine.dispatch s = { s with evValid := true, seq := .cStop } := by simp [Machine.dispatch, hl]
      rw [hd]
      exact of_awake hp nofun nofun nofun (fun hb' => absurd hb' hidle) h.pending nofun
  | handBack =>
    obtain ⟨hp, hb, hq⟩ := hm
    cases ht
    exact of_awake hp (by simp) nofun nofun
      (fun hb' => absurd (hb.symm.trans hb') (by simp)) h.pending nofun
  | accept w =>
    obtain ⟨hp, hb, hq⟩ := hm
    exact h.issueWord hp hb hq ht
  | quiet => cases ht; exact h
  | stuck => cases ht; exact h

end SequenceOrder

/-! ### The reference client -/

/-- The reference client is idle outside `C_FUN`, and its numbers are within its patterns (R152, R155). -/
structure ClientOrder (s : State) : Prop where
  client_idle : s.seq ≠ .cFun → s.client.pc = .idle
  pat_lt : s.client.patIdx < npat s.params
  phase_lt : s.client.phase < period s.params s.client.patIdx

/-- What the reference client does around a foreground step: it starts, it goes idle, or it stays or goes on. -/
theorem clientAfter_cases (d : Drive) (s t : State) :
    (t.seq = .cFun ∧ clientAfter d s t = { t with client := Client.start }) ∨
    (clientAfter d s t = { t with client := { t.client with pc := .idle } }) ∨
    ((t.seq = .cFun ↔ s.seq = .cFun) ∧
      (clientAfter d s t = t ∨ ∃ v, clientAfter d s t = { t with client := t.client.advance t.params v })) := by
  unfold clientAfter
  split
  · next h => exact .inl ⟨h.1, rfl⟩
  · next henter =>
    split
    · exact .inr (.inl rfl)
    · next hleave =>
      have hiff : t.seq = .cFun ↔ s.seq = .cFun :=
        ⟨fun ht => not_not.mp fun hs => henter ⟨ht, hs⟩, fun hs => not_not.mp fun ht => hleave ⟨ht, hs⟩⟩
      split
      · exact .inr (.inr ⟨hiff, .inr ⟨_, rfl⟩⟩)
      · exact .inr (.inr ⟨hiff, .inl rfl⟩)

theorem advance_idle {p : Params} {c : Client} (h : c.pc = .idle) (v : BitVec 8) : c.advance p v = c := by
  simp only [Client.advance, h]

/-- The reference client goes on within its patterns (R152, R153, R155). -/
theorem advance_lt {p : Params} (hp : p.wellFormed = true) {c : Client} (hpat : c.patIdx < npat p)
    (hphase : c.phase < period p c.patIdx) (v : BitVec 8) :
    (c.advance p v).patIdx < npat p ∧ (c.advance p v).phase < period p (c.advance p v).patIdx := by
  unfold Client.advance
  split
  case h_3 => exact ⟨hpat, period_pos hp hpat⟩
  case h_4 => exact ⟨hpat, Nat.mod_lt _ (period_pos hp hpat)⟩
  case h_6 => split <;> exact ⟨hpat, hphase⟩
  case h_7 =>
    split
    · next hnext => exact ⟨hnext, period_pos hp hnext⟩
    · exact ⟨hpat, hphase⟩
  all_goals exact ⟨hpat, hphase⟩

/-- The block does not write the reference client's state. -/
theorem runMove_client {m : FgMove} {s t : State} (hm : MoveBelongs s m) (h : runMove m s = .next t) :
    t.client = s.client := by
  cases m with
  | poll =>
    obtain ⟨-, hb⟩ := hm
    cases h
    exact pollStep_client hb
  | ctrl i n =>
    obtain ⟨u, hu, rfl⟩ := mapNext_eq_next h
    exact (exec_surroundings hu).client
  | accept w => exact (issueWord_surroundings h).client
  | _ => cases h; rfl

theorem runMove_params {m : FgMove} {s t : State} (hm : MoveBelongs s m) (h : runMove m s = .next t) :
    t.params = s.params := by
  cases m with
  | poll =>
    obtain ⟨-, hb⟩ := hm
    cases h
    exact pollStep_params hb
  | ctrl i n =>
    obtain ⟨u, hu, rfl⟩ := mapNext_eq_next h
    exact (exec_surroundings hu).params
  | accept w => exact (issueWord_surroundings h).params
  | _ => cases h; rfl

namespace ClientOrder

theorem of_eq {s t : State} (h : ClientOrder s) (hq : t.seq = s.seq) (hp : t.params = s.params)
    (hc : t.client = s.client) : ClientOrder t where
  client_idle hn := by rw [hc]; exact h.client_idle (hq ▸ hn)
  pat_lt := by rw [hc, hp]; exact h.pat_lt
  phase_lt := by rw [hc, hp]; exact h.phase_lt

/-- Around a foreground step the client starts on entering `C_FUN`, goes idle on leaving it, and otherwise goes on
within its patterns (log 19, log 20). -/
theorem clientAfter {s t : State} (h : ClientOrder s) (hok : t.params.wellFormed = true)
    (hc : t.client = s.client) (hp : t.params = s.params) (d : Drive) : ClientOrder (Machine.clientAfter d s t) := by
  have hpat : t.client.patIdx < npat t.params := by rw [hc, hp]; exact h.pat_lt
  have hphase : t.client.phase < period t.params t.client.patIdx := by rw [hc, hp]; exact h.phase_lt
  obtain ⟨hq, hu⟩ | hu | ⟨hq, hu | ⟨v, hu⟩⟩ := clientAfter_cases d s t <;> rw [hu]
  · exact ⟨fun hn => absurd hq hn, npat_pos hok, period_pos hok (npat_pos hok)⟩
  · exact ⟨fun _ => rfl, hpat, hphase⟩
  · exact ⟨fun hn => hc ▸ h.client_idle (mt hq.mpr hn), hpat, hphase⟩
  · obtain ⟨hpat', hphase'⟩ := advance_lt hok hpat hphase v
    refine ⟨fun hn => ?_, hpat', hphase'⟩
    have hidle : t.client.pc = .idle := hc ▸ h.client_idle (mt hq.mpr hn)
    dsimp only
    rw [advance_idle hidle, hidle]

end ClientOrder

/-! ### The invariant -/

/-- `Inv` but for the schedule, by what each part rests on. -/
structure BlockOrder (s : State) : Prop where
  power : PowerOrder s
  bounds : WordBounds s
  sequence : SequenceOrder s
  client : ClientOrder s

theorem inv_iff (s : State) : Inv s ↔ (∀ e ∈ s.turns, e.hardware = true) ∧ BlockOrder s := by
  constructor
  · intro h
    exact ⟨h.hardware, ⟨h.no_handler, h.armed_asleep, fun hp => (h.asleep hp).1, h.clock_off⟩,
      ⟨h.params_ok, h.tc_lt, h.tRef_lt, h.presc_lt, h.pin_seen⟩,
      ⟨h.seq_used, fun hp => (h.asleep hp).2, h.clock_on, h.lights_dark, h.wait_belongs, h.pending, h.fun_long⟩,
      ⟨h.client_idle, h.pat_lt, h.phase_lt⟩⟩
  · rintro ⟨hturns, hpower, hbounds, hseq, hclient⟩
    exact
      { hbounds, hpower, hseq, hclient with
        hardware := hturns
        asleep := fun hp => ⟨hpower.asleep hp, hseq.armed_idle hp⟩ }

namespace BlockOrder

theorem begin {s : State} (h : BlockOrder s) : BlockOrder s.begin :=
  ⟨h.power.begin, h.bounds.of_eq rfl rfl rfl rfl rfl rfl, { h.sequence with }, h.client.of_eq rfl rfl rfl⟩

theorem setPin {s : State} (h : BlockOrder s) (b : Bool) : BlockOrder (s.setPin b) :=
  ⟨h.power.setPin b, { h.bounds with pin_seen := rfl }, { h.sequence with }, h.client.of_eq rfl rfl rfl⟩

theorem wakeHandler {s : State} (h : BlockOrder s) : BlockOrder (Machine.wakeHandler s) :=
  ⟨h.power.wakeHandler, h.bounds.of_eq rfl rfl rfl rfl rfl rfl,
    { h.sequence with armed_idle := nofun }, h.client.of_eq rfl rfl rfl⟩

theorem pinStep {s : State} (h : BlockOrder s) (b : Bool) : BlockOrder (Machine.pinStep s b) := by
  obtain ⟨-, -, -, hu⟩ | ⟨-, hu⟩ := pinStep_cases s b <;> rw [hu]
  · exact (h.setPin b).wakeHandler
  · exact h.setPin b

/-- The edge detector has seen the pin, so the clock edge's pin change is the step model's (R23). -/
theorem edgeStep {s : State} (h : BlockOrder s) (b : Bool) : BlockOrder (Machine.edgeStep s b) :=
  edgeStep_eq_pinStep h.bounds.pin_seen b ▸ h.pinStep b

/-- A firing tick is serviced, or pends masked with its clock running (R43, R168). -/
theorem fireTick {s : State} (h : BlockOrder s) (hclk : s.clkRun = true) : BlockOrder (Machine.fireTick s) := by
  obtain ⟨hsame, hseq⟩ := fireTick_samePower s
  refine ⟨h.power.of_samePower hsame hseq, ?_, ?_, ?_⟩
  all_goals
    obtain htie | htie := Bool.eq_false_or_eq_true s.tie
  · rw [fireTick_serviced htie]; exact h.bounds.tickHandler
  · rw [fireTick_deferred htie]; exact h.bounds.of_eq rfl rfl rfl rfl rfl rfl
  · rw [fireTick_serviced htie]; exact { h.sequence with pending := nofun }
  · rw [fireTick_deferred htie]; exact { h.sequence with pending := fun _ => ⟨hclk, htie⟩ }
  · rw [fireTick_serviced htie]; exact h.client.of_eq rfl rfl rfl
  · rw [fireTick_deferred htie]; exact h.client.of_eq rfl rfl rfl

theorem tickStep {s : State} (h : BlockOrder s) : BlockOrder (Machine.tickStep s) := by
  obtain hclk | hclk := Bool.eq_false_or_eq_true s.clkRun
  · rw [tickStep_running hclk]; exact h.fireTick hclk
  · rw [tickStep_stopped hclk]; exact h

theorem setPresc {s : State} (h : BlockOrder s) {n : Nat} (hn : n < s.params.tickDiv) :
    BlockOrder { s with presc := n } :=
  ⟨h.power.of_samePower ⟨rfl, rfl, rfl, rfl, rfl⟩ rfl, { h.bounds with presc_lt := hn }, { h.sequence with },
    h.client.of_eq rfl rfl rfl⟩

/-- The prescaler counts up to `TICK_DIV - 1` and then fires (R212 item 3). -/
theorem countTick {s : State} (h : BlockOrder s) : BlockOrder (Machine.countTick s) := by
  have hpresc := h.bounds.presc_lt
  obtain ⟨-, hu⟩ | ⟨hclk, -, hu⟩ | ⟨-, hne, hu⟩ := countTick_cases s <;> rw [hu]
  · exact h
  · exact (h.setPresc (Nat.zero_lt_of_lt hpresc)).fireTick hclk
  · exact h.setPresc (by omega)

/-- A reset turn brings the order about from any state with allowed parameters (R190). -/
theorem resetStep {s : State} (hok : s.params.wellFormed = true) : BlockOrder (Machine.resetStep s) where
  power := PowerOrder.resetStep s
  bounds := ⟨hok, tickMod_lt _ _, tickMod_lt _ _, Nat.zero_lt_of_lt (four_le_tickDiv hok), rfl⟩
  sequence := ⟨by simp, fun _ => ⟨rfl, rfl⟩, nofun, fun _ => rfl, nofun,
    nofun, nofun⟩
  client := ⟨fun _ => rfl, npat_pos hok, period_pos hok (npat_pos hok)⟩

/-- A foreground step is the enabled move and the reference client's reaction, each in its own part. -/
theorem fgStep {s t : State} (h : BlockOrder s) {d : Drive} (ht : Machine.fgStep d s = .next t) : BlockOrder t := by
  have hpower := h.power.fgStep ht
  obtain ⟨u, hu, rfl⟩ := mapNext_eq_next ht
  have hm := fgMove_belongs (d.port s) s
  have hbounds := h.bounds.runMove hm hu
  have hseq := h.sequence.runMove h.power.no_handler hm hu
  refine ⟨hpower, ?_, ?_, h.client.clientAfter hbounds.params_ok (runMove_client hm hu) (runMove_params hm hu) d⟩
  · rw [clientAfter_eq]; exact hbounds.of_eq rfl rfl rfl rfl rfl rfl
  · rw [clientAfter_eq]; exact { hseq with }

theorem clockEdge {s t : State} (h : BlockOrder s) {b : Bool} {d : Drive}
    (ht : Machine.clockEdge b d s = .next t) : BlockOrder t := by
  unfold Machine.clockEdge at ht
  dsimp only at ht
  split at ht
  · cases ht
    exact (h.edgeStep b).countTick
  · obtain ⟨u, hu, rfl⟩ := mapNext_eq_next ht
    have hfg : BlockOrder u := (h.edgeStep b).fgStep hu
    split
    · exact hfg
    · exact hfg.countTick

/-- Every turn of the hardware keeps the order; the word turn is not one of them (log 18). -/
theorem runTurn {s t : State} (h : BlockOrder s) {e : Turn} (he : e.hardware = true)
    (ht : Machine.runTurn e s = .next t) : BlockOrder t := by
  cases e with
  | pin b => cases ht; exact h.pinStep b
  | tick => cases ht; exact h.tickStep
  | fg d => exact h.fgStep ht
  | reset => cases ht; exact resetStep h.bounds.params_ok
  | cycle rst b d =>
    cases rst with
    | true => cases ht; exact resetStep (s := { s with btnRaw := b }) h.bounds.params_ok
    | false => exact h.clockEdge ht
  | word x w => cases he

/-- The order holds after reset, whatever the parameters and the schedule (R35). -/
theorem reset {p : Params} (hok : p.wellFormed = true) (ts : List Turn) :
    BlockOrder { State.reset with params := p, turns := ts } where
  power := PowerOrder.reset p ts
  bounds := ⟨hok, Nat.two_pow_pos _, Nat.two_pow_pos _, Nat.zero_lt_of_lt (four_le_tickDiv hok), rfl⟩
  sequence := ⟨by simp [State.reset], fun _ => ⟨rfl, rfl⟩, nofun, fun _ => rfl, nofun,
    nofun, nofun⟩
  client := ⟨fun _ => rfl, npat_pos hok, period_pos hok (npat_pos hok)⟩

end BlockOrder

end Sys2Proof.Machine

namespace Sys2Proof.Proofs

open Sys2Proof.Machine

/-- Settles O35: the parts of the invariant hold of the reset values. -/
theorem invariantHoldsAtReset : Obligations.InvariantHoldsAtReset :=
  fun _ ts hok hts => (inv_iff _).mpr ⟨hts, .reset hok ts⟩

/-- Settles O36: the next turn is one of the hardware's, which keeps every part, and the turns after it are to
come. -/
theorem everyStepKeepsTheInvariant : Obligations.EveryStepKeepsTheInvariant := by
  intro s t h ht
  obtain ⟨hturns, horder⟩ := (inv_iff s).mp h
  exact (inv_iff t).mpr ⟨step_hardware ht hturns, horder.begin.runTurn (nextTurn_hardware hturns) ht⟩

end Sys2Proof.Proofs
end

section
/-! PROOFS. The turns of the other agents (20_memory.md R42, R43, 70_reset_and_hazards.md R190), the triggers of
`PowerState` (10_state.md R12) and the lost wake-up (70_reset_and_hazards.md R203). -/

namespace Sys2Proof.Machine

/-! ### What begins and what ends the sleep -/

/-- The turn is the wake edge: the pin falls, in the step model or at a clock edge, with the wake enabled (R42,
R212 item 1). -/
def WokenBy (s : State) (e : Turn) : Prop :=
  s.wakeEn = true ∧ ((e = .pin false ∧ s.btnRaw = true) ∨ ∃ d, e = .cycle false false d ∧ s.btnPrev = true)

/-- The turn is one that can put the block to sleep: a reset, the `C_SLEEP` step, a SLEEP word (R12; log 18). -/
def PutToSleepBy (s : State) (e : Turn) : Prop :=
  e.resets = true ∨
  (∃ d, (e = .fg d ∨ ∃ b, e = .cycle false b d) ∧ fgMove (d.port s) s = .armAndSleep) ∨
  (∃ x w, e = .word x w ∧ decode w = .ok .sleep)

/-- Of the foreground's moves only the fused C_SLEEP step writes `PowerState`. -/
theorem runMove_powerState {m : FgMove} {s t : State} (hm : MoveBelongs s m) (h : runMove m s = .next t) :
    t.powerState = s.powerState ∨ m = .armAndSleep := by
  cases m with
  | poll => cases h; exact .inl (pollStep_samePower s).1.powerState
  | ctrl i n =>
    obtain ⟨u, hu, rfl⟩ := mapNext_eq_next h
    obtain ⟨-, -, hmoves⟩ := hm
    refine .inl (exec_powerState (t := u) hu ?_)
    rintro rfl
    simp at hmoves
  | armAndSleep => exact .inr rfl
  | accept w =>
    obtain ⟨-, -, hq⟩ := hm
    obtain ⟨i, -, hi⟩ | ⟨c, -, rfl⟩ := issueWord_cases h
    · exact .inl (exec_power_of_cFun hq hi).1
    · exact .inl rfl
  | _ => cases h; exact .inl rfl

theorem fgStep_powerState {d : Drive} {s t : State} (h : fgStep d s = .next t) :
    t.powerState = s.powerState ∨ fgMove (d.port s) s = .armAndSleep := by
  obtain ⟨u, hu, rfl⟩ := mapNext_eq_next h
  rw [(clientAfter_samePower d s u).1.powerState]
  exact runMove_powerState (fgMove_belongs _ s) hu

/-- Of the operations only SLEEP writes `PowerState`, and it never wakes the block (R121). -/
theorem issueWord_powerState {w : OpWord} {s t : State} (h : issueWord w s = .next t) :
    t.powerState = s.powerState ∨ (t.powerState = .sleeping ∧ decode w = .ok .sleep) := by
  obtain ⟨i, hw, hi⟩ | ⟨c, -, rfl⟩ := issueWord_cases h
  · by_cases hsleep : i = .sleep
    · subst hsleep
      obtain ⟨-, rfl⟩ | ⟨-, rfl⟩ := exec_cases hi
      · exact .inl rfl
      · obtain he | he := effect_sleep_cases s <;> rw [he]
        · exact .inl rfl
        · exact .inr ⟨rfl, hw⟩
    · exact .inl (exec_powerState hi hsleep)
  · exact .inl rfl

theorem wordStep_powerState {x : Issuer} {w : OpWord} {s t : State} (h : wordStep x w s = .next t) :
    t.powerState = s.powerState ∨ (t.powerState = .sleeping ∧ decode w = .ok .sleep) := by
  unfold wordStep at h
  split at h
  · obtain ⟨u, hu, rfl⟩ := mapNext_eq_next h
    exact issueWord_powerState (s := { s with isr := true }) (t := u) hu
  all_goals
    split at h
    · exact issueWord_powerState h
    · cases h; exact .inl rfl

/-- Awake, the pin's edge changes neither the enabled move nor the power state (R212). -/
theorem edgeStep_powerState {s : State} (hp : s.powerState = .active) (b : Bool) :
    (edgeStep s b).powerState = .active := by
  obtain ⟨-, -, -, hu⟩ | ⟨-, hu⟩ := edgeStep_cases s b <;> rw [hu]
  · rfl
  · exact hp

theorem edgeStep_fgMove {s : State} (hp : s.powerState = .active) (b : Bool) (d : Drive) :
    fgMove (d.port (edgeStep s b)) (edgeStep s b) = fgMove (d.port s) s := by
  have hport : d.port (edgeStep s b) = d.port s := by
    obtain ⟨-, -, -, hu⟩ | ⟨-, hu⟩ := edgeStep_cases s b <;> rw [hu] <;> cases d <;> rfl
  rw [hport]
  refine fgMove_congr ((edgeStep_powerState hp b).trans hp.symm) ?_ ?_ _
  all_goals obtain ⟨-, -, -, hu⟩ | ⟨-, hu⟩ := edgeStep_cases s b <;> rw [hu] <;> rfl

/-- `PowerState` stays, or the turn is the wake edge, which disarms, or one that puts the block to sleep. -/
theorem runTurn_powerState {e : Turn} {s t : State} (h : runTurn e s = .next t) :
    t.powerState = s.powerState ∨ (t.powerState = .active ∧ t.wakeEn = false ∧ WokenBy s e) ∨
    (t.powerState = .sleeping ∧ PutToSleepBy s e) := by
  cases e with
  | pin b =>
    cases h
    obtain ⟨hraw, rfl, hw, hu⟩ | ⟨-, hu⟩ := pinStep_cases s b <;> rw [hu]
    · exact .inr (.inl ⟨rfl, rfl, hw, .inl ⟨rfl, hraw⟩⟩)
    · exact .inl rfl
  | tick => cases h; exact .inl (tickStep_samePower s).1.powerState
  | fg d =>
    have hput : fgMove (d.port s) s = .armAndSleep → PutToSleepBy s (.fg d) :=
      fun hm => .inr (.inl ⟨d, .inl rfl, hm⟩)
    obtain hp | hm := fgStep_powerState h
    · exact .inl hp
    · refine .inr (.inr ⟨?_, hput hm⟩)
      obtain ⟨u, hu, rfl⟩ := mapNext_eq_next h
      rw [hm] at hu
      cases hu
      exact (clientAfter_samePower d s _).1.powerState
  | reset => cases h; exact .inr (.inr ⟨rfl, .inl rfl⟩)
  | cycle rst b d =>
    cases rst with
    | true => cases h; exact .inr (.inr ⟨rfl, .inl rfl⟩)
    | false =>
      have hedge : clockEdge b d s = .next t := h
      unfold clockEdge at hedge
      dsimp only at hedge
      split at hedge
      · next hp =>
        cases hedge
        rw [(countTick_samePower _).1.powerState, (countTick_samePower _).1.wakeEn]
        obtain ⟨hprev, rfl, hw, hu⟩ | ⟨-, hu⟩ := edgeStep_cases s b <;> rw [hu]
        · exact .inr (.inl ⟨rfl, rfl, hw, .inr ⟨d, rfl, hprev⟩⟩)
        · exact .inl rfl
      · next hp =>
        obtain ⟨u, hu, rfl⟩ := mapNext_eq_next hedge
        have hlast : (if startsClock d (edgeStep s b) then u else countTick u).powerState = u.powerState := by
          split
          · rfl
          · exact (countTick_samePower u).1.powerState
        rw [hlast]
        obtain hpow | hm := fgStep_powerState hu
        · exact .inl (hpow.trans ((edgeStep_powerState hp b).trans hp.symm))
        · refine .inr (.inr ⟨?_, .inr (.inl ⟨d, .inr ⟨b, rfl⟩, edgeStep_fgMove hp b d ▸ hm⟩)⟩)
          obtain ⟨v, hv, rfl⟩ := mapNext_eq_next hu
          rw [hm] at hv
          cases hv
          exact (clientAfter_samePower d _ _).1.powerState
  | word x w =>
    obtain hp | ⟨hp, hw⟩ := wordStep_powerState h
    · exact .inl hp
    · exact .inr (.inr ⟨hp, .inr (.inr ⟨x, w, rfl, hw⟩)⟩)

/-! ### The lost wake-up -/

/-- A word of the controller's context is taken awake, outside a wait and outside `C_FUN` (log 18). -/
theorem wordStep_ctrl {s : State} (hp : s.powerState = .active) (hb : s.busy = false) (hq : s.seq ≠ .cFun)
    (w : OpWord) : wordStep .ctrl w s = issueWord w s := by
  have hx : s.fgIssuer = .ctrl := by simp [State.fgIssuer, hq]
  simp only [wordStep, hp, hb, hx, and_self, if_true]

/-- A word of the foreground's context is not taken asleep or in a wait (R44). -/
theorem wordStep_not_taken {x : Issuer} {s : State} (hx : x ≠ .isr) (h : s.powerState = .sleeping ∨ s.busy = true)
    (w : OpWord) : wordStep x w s = .next s := by
  have hnot : ¬(s.powerState = .active ∧ s.busy = false ∧ x = s.fgIssuer) := by
    rintro ⟨hp, hb, -⟩
    simp [hp, hb] at h
  cases x with
  | isr => exact absurd rfl hx
  | ctrl | client => exact if_neg hnot

/-- Asleep no turn but a reset arms the wake interrupt: the foreground is halted, and the handler may issue SAMPLE
alone (R44, R181). -/
theorem runTurn_disarmed {e : Turn} {s t : State} (he : e.resets = false) (hp : s.powerState = .sleeping)
    (hw : s.wakeEn = false) (h : runTurn e s = .next t) : t.wakeEn = false := by
  cases e with
  | pin b =>
    cases h
    obtain ⟨-, -, -, hu⟩ | ⟨-, hu⟩ := pinStep_cases s b <;> rw [hu]
    · rfl
    · exact hw
  | tick => cases h; exact (tickStep_samePower s).1.wakeEn.trans hw
  | fg d =>
    obtain ⟨u, hu, rfl⟩ := mapNext_eq_next h
    rw [fgMove_sleeping hp] at hu
    cases hu
    exact (clientAfter_samePower d s s).1.wakeEn.trans hw
  | reset => cases he
  | cycle rst b d =>
    subst he
    have hedge : clockEdge b d s = .next t := h
    simp only [clockEdge, hp] at hedge
    cases hedge
    rw [(countTick_samePower _).1.wakeEn]
    obtain ⟨-, -, -, hu⟩ | ⟨-, hu⟩ := edgeStep_cases s b <;> rw [hu]
    · rfl
    · exact hw
  | word x w =>
    cases x with
    | isr =>
      obtain ⟨u, hu, rfl⟩ := mapNext_eq_next h
      obtain ⟨i, -, hi⟩ | ⟨c, -, rfl⟩ := issueWord_cases hu
      · by_cases harm : i = .armWake
        · subst harm
          rw [exec_eq_refuse rfl] at hi
          cases hi
          exact hw
        · exact (exec_wakeEn (t := u) hi harm).trans hw
      · exact hw
    | ctrl | client =>
      rw [runTurn, wordStep_not_taken (by simp) (.inl hp)] at h
      cases h
      exact hw

/-- A word the controller's context takes in its turn is issued (log 18). -/
theorem step_word_ctrl {s : State} {w : OpWord} {es : List Turn} (h : s.turns = .word .ctrl w :: es)
    (hp : s.powerState = .active) (hb : s.busy = false) (hq : s.seq ≠ .cFun) : step s = issueWord w s.begin := by
  rw [step_eq_runTurn h, runTurn, wordStep_ctrl (s := s.begin) hp hb hq]

theorem step_wakeEdge {s : State} {es : List Turn} (h : s.turns = .pin false :: es) (hraw : s.btnRaw = true)
    (hw : s.wakeEn = true) : step s = .next (wakeHandler (s.begin.setPin false)) := by
  rw [step_eq_runTurn h]
  exact congrArg Host.Outcome.next (if_pos ⟨hraw, rfl, hw⟩)

theorem nextTurn_resets {s : State} (h : ∀ e ∈ s.turns, e.resets = false) : s.nextTurn.resets = false := by
  unfold State.nextTurn
  cases hs : s.turns with
  | nil => rfl
  | cons e es => exact h e (by simp [hs])

/-- A step takes a turn away and adds none. -/
theorem step_no_reset {s t : State} (hs : step s = .next t) (h : ∀ e ∈ s.turns, e.resets = false) :
    ∀ e ∈ t.turns, e.resets = false :=
  fun e he => h e (List.mem_of_mem_tail (step_turns hs ▸ he))

/-- Asleep and disarmed the block stays so: the wake edge needs the enable (R203). -/
theorem step_lostWakeUp {s t : State} (h : LostWakeUp s) (ht : step s = .next t) : LostWakeUp t where
  asleep := by
    obtain hp | ⟨-, -, hw, -⟩ | ⟨hp, -⟩ := runTurn_powerState ht
    · exact hp.trans h.asleep
    · exact absurd (h.disarmed.symm.trans hw) (by simp)
    · exact hp
  disarmed := runTurn_disarmed (nextTurn_resets h.no_reset) (s := s.begin) h.asleep h.disarmed ht
  no_reset := step_no_reset ht h.no_reset

end Sys2Proof.Machine

namespace Sys2Proof.Proofs

open Sys2Proof.Machine

/-- Settles O28: the pin's edge is the wake edge or the new level alone. -/
theorem pinChangeAndWakeInterrupt : Obligations.PinChangeAndWakeInterrupt := by
  intro s b es h
  rw [step_eq_runTurn h]
  constructor
  · intro hwake
    exact ⟨b, congrArg Host.Outcome.next (if_pos hwake)⟩
  · intro hstill
    exact ⟨b, congrArg Host.Outcome.next (if_neg hstill)⟩

/-- Settles O29: the timer's turn, by `clk_run` and then by `tie`. -/
theorem tickServicedDeferredOrDisabled : Obligations.TickServicedDeferredOrDisabled := by
  intro s es h
  have hstep : step s = .next (tickStep s.begin) := step_eq_runTurn h
  rw [hstep]
  refine ⟨fun hclk htie => ?_, fun hclk htie => ?_, fun hclk => ?_⟩
  · rw [tickStep_running (s := s.begin) hclk, fireTick_serviced (s := s.begin) htie]
    rfl
  · rw [tickStep_running (s := s.begin) hclk, fireTick_deferred (s := s.begin) htie]
  · rw [tickStep_stopped (s := s.begin) hclk]

/-- Settles O30: both turns that reset are the reset event, the clock edge's with the pin it brings. -/
theorem resetFromAnyState : Obligations.ResetFromAnyState := by
  intro s e es h he
  rw [step_eq_runTurn h]
  cases e with
  | reset =>
    exact ⟨_, rfl, rfl, rfl, rfl, rfl, rfl, rfl, rfl, rfl, rfl, rfl, rfl, rfl, rfl, rfl, nofun, fun _ => rfl⟩
  | cycle rst b d =>
    subst he
    refine ⟨_, rfl, rfl, rfl, rfl, rfl, rfl, rfl, rfl, rfl, rfl, rfl, rfl, rfl, rfl, rfl, ?_, nofun⟩
    rintro rst' b' d' hcycle
    cases hcycle
    rfl
  | pin b | tick | fg d | word x w => cases he

/-- Settles O40: a turn leaves `PowerState`, or is one of its triggers (`runTurn_powerState`). -/
theorem powerStateChangesOnlyByItsTriggers : Obligations.PowerStateChangesOnlyByItsTriggers := by
  intro s t ht
  constructor
  · intro hs hta
    obtain hp | ⟨-, hdis, hw, htrigger⟩ | ⟨hp, -⟩ := runTurn_powerState ht
    · exact absurd (hs.symm.trans (hp.symm.trans hta)) (by simp)
    · exact ⟨hw, hdis, htrigger⟩
    · exact absurd (hp.symm.trans hta) (by simp)
  · intro hs hts
    obtain hp | ⟨hp, -⟩ | ⟨-, hput⟩ := runTurn_powerState ht
    · exact absurd (hs.symm.trans (hp.symm.trans hts)) (by simp)
    · exact absurd (hp.symm.trans hts) (by simp)
    · exact hput

/-- Settles O55: ARM_WAKE arms, the edge between the two words wakes an awake block and disarms it, SLEEP sleeps;
and the lost wake-up is for ever (`step_lostWakeUp`). -/
theorem splitSleepCanLoseTheWakeUp : Obligations.SplitSleepCanLoseTheWakeUp := by
  refine ⟨?_, fun s t => step_lostWakeUp⟩
  intro s es hp hb hi hq hclk hraw h hes
  have harm : step s = .next { s.begin with wakeEn := true, answer := some ⟨.ctrl, .done 0x00#8⟩ } :=
    (step_word_ctrl h hp hb hq).trans (exec_armWake_ctrl (s := s.begin) (issuer_ctrl hi hq))
  generalize hu : { s.begin with wakeEn := true, answer := some ⟨.ctrl, .done 0x00#8⟩ } = u at harm
  have huTurns : u.turns = .pin false :: .word .ctrl 0xA0000#20 :: es := by rw [← hu]; simp [h]
  have hwake : step u = .next (wakeHandler (u.begin.setPin false)) :=
    step_wakeEdge huTurns (by rw [← hu]; exact hraw) (by rw [← hu])
  generalize hv : wakeHandler (u.begin.setPin false) = v at hwake
  have hvTurns : v.turns = .word .ctrl 0xA0000#20 :: es := by rw [← hv]; simp [huTurns]
  have hvSeq : v.seq ≠ .cFun := by rw [← hv, ← hu]; exact hq
  have hvIssuer : v.issuer = .ctrl := issuer_ctrl (by rw [← hv, ← hu]; exact hi) hvSeq
  have hsleep : step v = .next { v.begin with powerState := .sleeping, answer := some ⟨.ctrl, .done 0x00#8⟩ } :=
    (step_word_ctrl hvTurns (by rw [← hv]; rfl) (by rw [← hv, ← hu]; exact hb) hvSeq).trans
      (exec_sleep_stopped (s := v.begin) hvIssuer (by rw [← hv, ← hu]; exact hclk))
  rw [run_succ harm, run_succ hwake, run_succ hsleep]
  exact ⟨_, rfl, rfl, by rw [← hv]; rfl, by simpa [hvTurns] using hes⟩

end Sys2Proof.Proofs
end

section
/-! PROOFS. What the block does not see: the reference client's state (43_pattern_engine.md R152) and the turns to
come. Every part of a step commutes with other values of the two; so the block never sees the client, and a clock
edge is an interleaving of the step model (70_reset_and_hazards.md R212). -/

namespace Sys2Proof.Machine

/-! ### The prescaler, forwards (R212 item 3) -/

theorem countTick_stopped {s : State} (h : s.clkRun = false) : countTick s = s := by simp [countTick, h]

theorem countTick_fires {s : State} (h : s.clkRun = true) (hp : s.presc + 1 = s.params.tickDiv) :
    countTick s = fireTick { s with presc := 0 } := by simp [countTick, h, hp]

theorem countTick_counts {s : State} (h : s.clkRun = true) (hp : s.presc + 1 ≠ s.params.tickDiv) :
    countTick s = { s with presc := s.presc + 1 } := by simp [countTick, h, hp]

/-- The same block, with another reference client and other turns to come. -/
def State.withUnseen (s : State) (c : Client) (ts : List Turn) : State := { s with client := c, turns := ts }

/-! ### Each part of a step commutes with the unseen fields -/

section
variable (c : Client) (ts : List Turn)

theorem ite_withUnseen (p : Prop) [Decidable p] (s t : State) :
    (if p then s.withUnseen c ts else t.withUnseen c ts) = (if p then s else t).withUnseen c ts :=
  (apply_ite (fun u => State.withUnseen u c ts) p s t).symm

theorem effect_withUnseen (i : Instr) (s : State) :
    effect i (s.withUnseen c ts) = (effect i s).withUnseen c ts := by
  cases i with
  | sleep => exact ite_withUnseen c ts (s.clkRun = true) (s.refuse .precond) ({ s with powerState := .sleeping }.reply 0x00#8)
  | tickUnmask =>
    obtain hp | hp := Bool.eq_false_or_eq_true s.tickPend
    · rw [effect_tickUnmask_pending hp, effect_tickUnmask_pending (s := s.withUnseen c ts) hp]; rfl
    · rw [effect_tickUnmask_idle hp, effect_tickUnmask_idle (s := s.withUnseen c ts) hp]; rfl
  | _ => rfl

theorem exec_withUnseen (i : Instr) (s : State) :
    exec i (s.withUnseen c ts) = mapNext (exec i s) (·.withUnseen c ts) := by
  obtain hm | hm := Bool.eq_false_or_eq_true (mayIssue s.issuer i)
  · rw [exec_of_mayIssue hm, exec_of_mayIssue (s := s.withUnseen c ts) hm, effect_withUnseen, mapNext_next]
  · rw [exec_eq_refuse hm, exec_eq_refuse (s := s.withUnseen c ts) hm]; rfl

theorem issueWord_withUnseen (w : OpWord) (s : State) :
    issueWord w (s.withUnseen c ts) = mapNext (issueWord w s) (·.withUnseen c ts) := by
  cases hw : decode w with
  | ok i => rw [issueWord_ok hw, issueWord_ok hw, exec_withUnseen]
  | error e => rw [issueWord_reserved hw, issueWord_reserved hw]; rfl

theorem settleAdvance_withUnseen (s : State) :
    settleAdvance (s.withUnseen c ts) = (settleAdvance s).withUnseen c ts := by
  unfold settleAdvance
  dsimp only [State.withUnseen]
  split <;> rfl

theorem pollWaitTick_withUnseen (s : State) :
    pollWaitTick (s.withUnseen c ts) = (pollWaitTick s).withUnseen c ts :=
  ite_withUnseen c ts (s.tc ≠ s.tRef) (s.finishWait 0x00#8) s

theorem pollDelay_withUnseen (s : State) : pollDelay (s.withUnseen c ts) = (pollDelay s).withUnseen c ts :=
  ite_withUnseen c ts (s.tRef ≤ s.tc) (s.finishWait 0x00#8) s

theorem pollWaitPattern_withUnseen (s : State) :
    pollWaitPattern (s.withUnseen c ts) = (pollWaitPattern s).withUnseen c ts :=
  ite_withUnseen c ts (patternHolds s.sh s.opA s.opB = true) (patternDone s) (s.observeZero s.sh)

theorem pollStep_withUnseen (s : State) : pollStep (s.withUnseen c ts) = (pollStep s).withUnseen c ts := by
  have hop : (s.withUnseen c ts).curOp = s.curOp := rfl
  unfold pollStep
  dsimp only
  rw [hop, pollWaitTick_withUnseen, pollDelay_withUnseen, pollWaitPattern_withUnseen, settleAdvance_withUnseen]
  split
  · rfl
  · rfl
  · exact ite_withUnseen c ts _ _ _
  · rfl

theorem runMove_withUnseen (m : FgMove) (s : State) :
    runMove m (s.withUnseen c ts) = mapNext (runMove m s) (·.withUnseen c ts) := by
  cases m with
  | poll => exact congrArg Host.Outcome.next (pollStep_withUnseen c ts s)
  | ctrl i n =>
    obtain ⟨t, ht⟩ := exists_exec_eq_next i s
    simp only [runMove, exec_withUnseen, ht, mapNext_next]
    rfl
  | accept w => exact issueWord_withUnseen c ts w s
  | _ => rfl

theorem fireTick_withUnseen (s : State) : fireTick (s.withUnseen c ts) = (fireTick s).withUnseen c ts :=
  ite_withUnseen c ts (s.tie = true) (tickHandler s) { s with tickPend := true }

theorem tickStep_withUnseen (s : State) : tickStep (s.withUnseen c ts) = (tickStep s).withUnseen c ts := by
  unfold tickStep
  rw [fireTick_withUnseen]
  exact ite_withUnseen c ts _ _ _

theorem pinStep_withUnseen (s : State) (b : Bool) :
    pinStep (s.withUnseen c ts) b = (pinStep s b).withUnseen c ts :=
  ite_withUnseen c ts (s.btnRaw = true ∧ b = false ∧ s.wakeEn = true) (wakeHandler (s.setPin b)) (s.setPin b)

theorem edgeStep_withUnseen (s : State) (b : Bool) :
    edgeStep (s.withUnseen c ts) b = (edgeStep s b).withUnseen c ts :=
  ite_withUnseen c ts (s.btnPrev = true ∧ b = false ∧ s.wakeEn = true) (wakeHandler (s.setPin b)) (s.setPin b)

theorem countTick_withUnseen (s : State) : countTick (s.withUnseen c ts) = (countTick s).withUnseen c ts := by
  obtain ⟨hclk, hu⟩ | ⟨hclk, hp, hu⟩ | ⟨hclk, hp, hu⟩ := countTick_cases s <;> rw [hu]
  · exact countTick_stopped (s := s.withUnseen c ts) hclk
  · exact (countTick_fires (s := s.withUnseen c ts) hclk hp).trans (fireTick_withUnseen c ts { s with presc := 0 })
  · exact countTick_counts (s := s.withUnseen c ts) hclk hp

theorem wordStep_withUnseen (x : Issuer) (w : OpWord) (s : State) :
    wordStep x w (s.withUnseen c ts) = mapNext (wordStep x w s) (·.withUnseen c ts) := by
  cases x with
  | isr =>
    obtain ⟨t, ht⟩ := exists_issueWord_eq_next w { s with isr := true }
    have hword := issueWord_withUnseen c ts w { s with isr := true }
    rw [ht] at hword
    simp only [wordStep, ht, mapNext_next]
    exact congrArg (mapNext · _) hword
  | ctrl | client =>
    simp only [wordStep]
    rw [apply_ite (mapNext · _), ← issueWord_withUnseen]
    rfl

end

/-! ### The block never sees the reference client -/

/-- With another client on the port, a foreground step commutes with the reference client's state, which goes
wherever it goes. -/
theorem fgStep_ports_withUnseen {p : Port} {s t : State} (h : fgStep (.ports p) s = .next t) (c : Client)
    (ts : List Turn) : ∃ c', fgStep (.ports p) (s.withUnseen c ts) = .next (t.withUnseen c' ts) := by
  obtain ⟨u, hu, rfl⟩ := mapNext_eq_next h
  have hmove : runMove (fgMove p s) (s.withUnseen c ts) = .next (u.withUnseen c ts) := by
    rw [runMove_withUnseen]
    exact congrArg (mapNext · _) hu
  refine ⟨(clientAfter (.ports p) (s.withUnseen c ts) (u.withUnseen c ts)).client,
    (congrArg (mapNext · _) hmove).trans (congrArg Host.Outcome.next ?_)⟩
  rw [clientAfter_eq, clientAfter_eq _ s u]
  rfl

theorem clockEdge_ports_withUnseen {b : Bool} {p : Port} {s t : State}
    (h : clockEdge b (.ports p) s = .next t) (c : Client) (ts : List Turn) :
    ∃ c', clockEdge b (.ports p) (s.withUnseen c ts) = .next (t.withUnseen c' ts) := by
  have hedge := edgeStep_withUnseen c ts s b
  cases hp : s.powerState with
  | sleeping =>
    have hp' : (s.withUnseen c ts).powerState = .sleeping := hp
    simp only [clockEdge, hp] at h
    cases h
    simp only [clockEdge, hp', hedge, countTick_withUnseen]
    exact ⟨c, rfl⟩
  | active =>
    have hp' : (s.withUnseen c ts).powerState = .active := hp
    simp only [clockEdge, hp] at h
    obtain ⟨u, hu, rfl⟩ := mapNext_eq_next h
    obtain ⟨c', hc'⟩ := fgStep_ports_withUnseen hu c ts
    have hstarts : startsClock (.ports p) ((edgeStep s b).withUnseen c ts) = startsClock (.ports p) (edgeStep s b) := rfl
    simp only [clockEdge, hp', hedge, hc', mapNext_next, hstarts, countTick_withUnseen]
    exact ⟨c', congrArg Host.Outcome.next (ite_withUnseen c' ts _ _ _)⟩

theorem runTurn_withUnseen {e : Turn} (he : e.otherClient = true) {s t : State} (h : runTurn e s = .next t)
    (c : Client) (ts : List Turn) : ∃ c', runTurn e (s.withUnseen c ts) = .next (t.withUnseen c' ts) := by
  cases e with
  | pin b => cases h; exact ⟨c, congrArg Host.Outcome.next (pinStep_withUnseen c ts s b)⟩
  | tick => cases h; exact ⟨c, congrArg Host.Outcome.next (tickStep_withUnseen c ts s)⟩
  | fg d =>
    cases d with
    | ports p => exact fgStep_ports_withUnseen h c ts
    | engine => cases he
  | reset => cases h; exact ⟨_, rfl⟩
  | cycle rst b d =>
    cases rst with
    | true => cases h; exact ⟨_, rfl⟩
    | false =>
      cases d with
      | ports p => exact clockEdge_ports_withUnseen h c ts
      | engine => cases he
  | word x w =>
    refine ⟨c, (wordStep_withUnseen c ts x w s).trans ?_⟩
    exact congrArg (mapNext · _) h

end Sys2Proof.Machine

namespace Sys2Proof.Proofs

open Sys2Proof.Machine

/-- Settles O42: the turn runs the same in a state with another reference client (`runTurn_withUnseen`). -/
theorem blockNeverSeesTheClientsState : Obligations.BlockNeverSeesTheClientsState := by
  intro s t c he ht
  obtain ⟨c', hc'⟩ := runTurn_withUnseen he ht c s.turns.tail
  refine ⟨c', hc'.trans (congrArg Host.Outcome.next ?_)⟩
  rw [State.withUnseen, ← step_turns ht]

end Sys2Proof.Proofs
end

section
/-! PROOFS. One clock edge in terms of the step model (70_reset_and_hazards.md R212): the pin's turn, the foreground's
if the block was awake, and the prescaler; and the cycles up to the first tick. -/

namespace Sys2Proof.Machine

/-! ### Turns with other turns after them -/

/-- The same state, with other turns to come. -/
def State.withTurns (s : State) (ts : List Turn) : State := { s with turns := ts }

theorem pinStep_withTurns (s : State) (b : Bool) (ts : List Turn) :
    pinStep (s.withTurns ts) b = (pinStep s b).withTurns ts := by
  obtain ⟨hraw, hb, hw, hu⟩ | ⟨hn, hu⟩ := pinStep_cases s b <;> rw [hu]
  · exact if_pos ⟨hraw, hb, hw⟩
  · exact if_neg hn

theorem clientAfter_withTurns (d : Drive) (s t : State) (ts : List Turn) :
    clientAfter d (s.withTurns ts) (t.withTurns ts) = (clientAfter d s t).withTurns ts := by
  unfold clientAfter State.withTurns
  dsimp only
  split
  · rfl
  · split
    · rfl
    · split <;> rfl

/-- A foreground step does not look at the turns to come. -/
theorem fgStep_withTurns (d : Drive) (s : State) (ts : List Turn) :
    fgStep d (s.withTurns ts) = mapNext (fgStep d s) (·.withTurns ts) := by
  obtain ⟨u, hu⟩ := exists_runMove_eq_next (fgMove (d.port s) s) s
  have hport : d.port (s.withTurns ts) = d.port s := by cases d <;> rfl
  have hmove : runMove (fgMove (d.port s) s) (s.withTurns ts) = .next (u.withTurns ts) := by
    have hsame : u.withUnseen s.client ts = u.withTurns ts := by
      rw [State.withUnseen, ← runMove_client (fgMove_belongs _ s) hu]
      rfl
    have hrun := runMove_withUnseen s.client ts (fgMove (d.port s) s) s
    rw [hu, mapNext_next, hsame] at hrun
    exact hrun
  have hfg : fgStep d (s.withTurns ts) =
      mapNext (runMove (fgMove (d.port s) s) (s.withTurns ts)) (clientAfter d (s.withTurns ts)) := by
    rw [← hport]
    rfl
  rw [hfg, hmove, fgStep, hu, mapNext_next, mapNext_next, mapNext_next, clientAfter_withTurns]

/-! ### The two first turns of a clock edge -/

/-- The first turn of the interleaving: the pin's. -/
theorem step_pin_withTurns (s : State) (b : Bool) (ts : List Turn) :
    step (s.withTurns (.pin b :: ts)) = .next ((pinStep s.begin b).withTurns ts) :=
  congrArg Host.Outcome.next (pinStep_withTurns s.begin b ts)

/-- After it there is no pulse to end. -/
theorem begin_pinStep_withTurns (s : State) (b : Bool) (e : Turn) (ts : List Turn) :
    ((pinStep s.begin b).withTurns (e :: ts)).begin = (pinStep s.begin b).withTurns ts := by
  obtain ⟨-, -, -, hu⟩ | ⟨-, hu⟩ := pinStep_cases s.begin b <;> rw [hu] <;> rfl

/-- The second, if the block was awake: the foreground's. -/
theorem step_fg_withTurns (s : State) (b : Bool) (d : Drive) (ts : List Turn) :
    step ((pinStep s.begin b).withTurns (.fg d :: ts)) =
      mapNext (fgStep d (pinStep s.begin b)) (·.withTurns ts) := by
  rw [step_eq_runTurn (s := (pinStep s.begin b).withTurns (.fg d :: ts)) rfl, begin_pinStep_withTurns,
    ← fgStep_withTurns]
  rfl

theorem pinStep_unchanged (s : State) (b : Bool) :
    (pinStep s b).turns = s.turns ∧ (pinStep s b).params = s.params ∧ (pinStep s b).isr = s.isr := by
  obtain ⟨-, -, -, hu⟩ | ⟨-, hu⟩ := pinStep_cases s b <;> rw [hu] <;> exact ⟨rfl, rfl, rfl⟩

theorem fgStep_params {d : Drive} {s t : State} (h : fgStep d s = .next t) : t.params = s.params := by
  obtain ⟨u, hu, rfl⟩ := mapNext_eq_next h
  rw [clientAfter_eq]
  exact runMove_params (t := u) (fgMove_belongs _ s) hu

/-- A CLK_START leaves the prescaler at 0 (R82). -/
theorem exec_clkStart_presc {s t : State} (hi : s.isr = false) (h : exec .clkStart s = .next t) : t.presc = 0 := by
  rw [exec_clkStart_foreground (issuer_ne_isr hi)] at h
  cases h
  rfl

theorem runMove_clkStart_presc {m : FgMove} {s t : State} (hi : s.isr = false)
    (hs : m.issues = some .clkStart) (h : runMove m s = .next t) : t.presc = 0 := by
  cases m with
  | ctrl i n =>
    obtain ⟨u, hu, rfl⟩ := mapNext_eq_next h
    obtain rfl : i = .clkStart := Option.some.inj hs
    exact exec_clkStart_presc (t := u) hi hu
  | accept w =>
    obtain ⟨i, hw, hx⟩ | ⟨c, hw, -⟩ := issueWord_cases h
    · rw [issues_accept hw] at hs
      obtain rfl : i = .clkStart := Option.some.inj hs
      exact exec_clkStart_presc hi hx
    · simp [FgMove.issues, hw, Except.toOption] at hs
  | _ => cases hs

theorem fgStep_clkStart_presc {d : Drive} {s t : State} (hi : s.isr = false)
    (hs : (fgMove (d.port s) s).issues = some .clkStart) (h : fgStep d s = .next t) : t.presc = 0 := by
  obtain ⟨u, hu, rfl⟩ := mapNext_eq_next h
  rw [clientAfter_eq]
  exact runMove_clkStart_presc (t := u) hi hs hu

/-! ### The clock edge -/

/-- The turns of the step model that come before the prescaler in a clock edge. -/
def edgeTurns (s : State) (b : Bool) (d : Drive) : List Turn :=
  .pin b :: (if s.powerState = .active then [.fg d] else [])

/-- The foreground step of a clock edge executes a CLK_START. -/
def EdgeStarts (s : State) (d : Drive) : Prop :=
  s.powerState = .active ∧ (fgMove (d.port s.begin) s.begin).issues = some .clkStart

/-- A clock edge is the turns of the step model to a state `v`, and then the prescaler, but in the cycle of a
CLK_START (R212). -/
theorem clockEdge_cases {s t : State} {b : Bool} {d : Drive} (hseen : s.btnPrev = s.btnRaw) (hi : s.isr = false)
    (h : clockEdge b d s.begin = .next t) :
    ∃ v, v.turns = s.begin.turns ∧ v.params = s.params ∧
      (∀ ts, run (edgeTurns s b d).length (s.withTurns (edgeTurns s b d ++ ts)) = .next (v.withTurns ts)) ∧
      ((EdgeStarts s d ∧ v.presc = 0 ∧ t = v) ∨ (¬EdgeStarts s d ∧ t = countTick v)) := by
  have hedge : edgeStep s.begin b = pinStep s.begin b := edgeStep_eq_pinStep (s := s.begin) hseen b
  obtain ⟨hturns, hparams, hisr⟩ := pinStep_unchanged s.begin b
  unfold clockEdge at h
  rw [hedge] at h
  cases hp : s.powerState with
  | sleeping =>
    have hts : edgeTurns s b d = [.pin b] := by simp [edgeTurns, hp]
    simp only [begin_powerState, hp] at h
    cases h
    refine ⟨pinStep s.begin b, hturns, hparams, fun ts => ?_, .inr ⟨fun hs => ?_, rfl⟩⟩
    · rw [hts]
      exact run_succ (step_pin_withTurns s b ts)
    · exact absurd (hp.symm.trans hs.1) (by simp)
  | active =>
    have hts : edgeTurns s b d = [.pin b, .fg d] := by simp [edgeTurns, hp]
    simp only [begin_powerState, hp] at h
    obtain ⟨v, hv, rfl⟩ := mapNext_eq_next h
    have hmove := edgeStep_fgMove (s := s.begin) hp b d
    rw [hedge] at hmove
    refine ⟨v, (fgStep_turns hv).trans hturns, (fgStep_params hv).trans hparams, fun ts => ?_, ?_⟩
    · rw [hts]
      have hfg := step_fg_withTurns s b d ts
      rw [hv, mapNext_next] at hfg
      exact (run_succ (step_pin_withTurns s b (.fg d :: ts))).trans (run_succ hfg)
    · by_cases hs : (fgMove (d.port s.begin) s.begin).issues = some .clkStart
      · refine .inl ⟨⟨hp, hs⟩, fgStep_clkStart_presc (hisr.trans hi) (hmove.symm ▸ hs) hv, ?_⟩
        simp [startsClock, hmove, hs]
      · refine .inr ⟨fun h => hs h.2, ?_⟩
        simp [startsClock, hmove, hs]

/-- The tick that follows where the prescaler fires, against the step model's: the prescaler and the pulses aside
they are the same (R43, R212 item 3). -/
theorem fireTick_presc (v : State) :
    fireTick { v with presc := 0 } =
      { fireTick v.clearPulses with presc := 0, answer := v.answer, evValid := v.evValid } := by
  obtain htie | htie := Bool.eq_false_or_eq_true v.tie
  · rw [fireTick_serviced (s := { v with presc := 0 }) htie, fireTick_serviced (s := v.clearPulses) htie]; rfl
  · rw [fireTick_deferred (s := { v with presc := 0 }) htie, fireTick_deferred (s := v.clearPulses) htie]; rfl

end Sys2Proof.Machine

namespace Sys2Proof.Proofs

open Sys2Proof.Machine

/-- Settles O56: the turns before the prescaler are the step model's (`clockEdge_cases`), and the prescaler stands
still, counts or fires. -/
theorem clockCycleIsAnInterleaving : Obligations.ClockCycleIsAnInterleaving := by
  intro s t b d es hseen hi h ht
  rw [step_eq_runTurn h] at ht
  obtain ⟨v, hturns, hparams, hrun, hcases⟩ := clockEdge_cases hseen hi ht
  have hes : v.withTurns es = v := by rw [State.withTurns, ← (show v.turns = es by simpa [h] using hturns)]
  have hv := hrun es
  rw [hes] at hv
  refine ⟨v, hv, ?starts, ?stopped, ?counts, ?fires⟩
  all_goals
    obtain ⟨hs, hpresc, htv⟩ | ⟨hs, htv⟩ := hcases
  case starts.inl => exact fun _ => ⟨hpresc, htv⟩
  case starts.inr => exact fun hs' => absurd hs' hs
  case stopped.inl => exact fun _ => htv
  case stopped.inr => exact fun hclk => htv.trans (countTick_stopped hclk)
  case counts.inl => exact fun _ hs' => absurd hs hs'
  case counts.inr => exact fun hclk _ hp => htv.trans (countTick_counts hclk (by rw [hparams]; exact hp))
  case fires.inl => exact fun _ hs' => absurd hs hs'
  case fires.inr =>
    intro hclk _ hp
    have htick : step (v.withTurns (.tick :: es)) = .next (fireTick v.clearPulses) := by
      have hbegin : (v.withTurns (.tick :: es)).begin = v.clearPulses := by
        rw [← hes]
        rfl
      rw [step_eq_runTurn (s := v.withTurns (.tick :: es)) rfl, hbegin]
      exact congrArg Host.Outcome.next (tickStep_running (s := v.clearPulses) hclk)
    refine ⟨fireTick v.clearPulses, (run_add (hrun (.tick :: es))).trans (run_succ htick),
      htv.trans ((countTick_fires hclk (by rw [hparams]; exact hp)).trans (fireTick_presc v)), fun htie => ?_⟩
    rw [fireTick_deferred (s := v.clearPulses) htie]
    exact ⟨rfl, rfl, rfl⟩

end Sys2Proof.Proofs
end

section
/-! PROOFS. Waits whose poll does not complete: what every turn short of a reset leaves of such a wait, said once; then
the hangs of 40_sample_clock.md R83, R88 and 70_reset_and_hazards.md R202, R208, and the cycles before a tick (R212). -/

namespace Sys2Proof.Machine

/-! ### A poll that does not complete -/

/-- The wait in progress does not end at a poll of this state (R84, R85, R103). -/
def Unfinished (s : State) : Prop :=
  (s.curOp = 0x3#4 ∧ s.tc = s.tRef) ∨ (s.curOp = 0x4#4 ∧ s.tc < s.tRef) ∨
  (s.curOp = 0x7#4 ∧ s.sh &&& s.opB ≠ s.opA)

/-- `saw_zero` after a poll: a WAIT_PATTERN's takes the zero test, the others' do not (R18). -/
def polledZero (s : State) : Bool := s.sawZero || (s.curOp == 0x7#4 && s.sh == 0x00#8)

theorem polledZero_of_clock_wait {s : State} (h : s.curOp = 0x3#4 ∨ s.curOp = 0x4#4) : polledZero s = s.sawZero := by
  obtain h | h := h <;> simp [polledZero, h]

theorem polledZero_of_waitPattern {s : State} (h : s.curOp = 0x7#4) :
    polledZero s = (s.sawZero || s.sh == 0x00#8) := by
  simp [polledZero, h]

/-- A poll that does not complete takes the zero test and nothing else. -/
theorem pollStep_unfinished {s : State} (hb : s.busy = true) (h : Unfinished s) :
    pollStep s = { s with sawZero := polledZero s } := by
  obtain ⟨hop, htc⟩ | ⟨hop, htc⟩ | ⟨hop, hm⟩ := h
  · rw [polledZero_of_clock_wait (.inl hop), pollStep_waitTick_waiting hop htc]
  · rw [polledZero_of_clock_wait (.inr hop), pollStep_delay_waiting hop htc]
  · rw [polledZero_of_waitPattern hop, pollStep_unmatched hop hb hm]
    rfl

theorem fgStep_unfinished {s : State} (hp : s.powerState = .active) (hb : s.busy = true) (h : Unfinished s)
    (ha : s.answer = none) (d : Drive) : fgStep d s = .next { s with sawZero := polledZero s } := by
  unfold fgStep
  rw [fgMove_busy hp hb, runMove, pollStep_unfinished hb h, mapNext_next]
  exact congrArg Host.Outcome.next
    (clientAfter_unanswered (s := s) (t := { s with sawZero := polledZero s }) Iff.rfl (response_of_none ha) d)

/-! ### What a turn leaves of a wait -/

/-- No tick is serviced: the clock is stopped or masked (R88). -/
def NoTick (s : State) : Prop := s.clkRun = false ∨ s.tie = false

/-- The same wait is in progress, and with no tick serviced the count stands still. -/
structure SameWait (s t : State) : Prop where
  powerState : t.powerState = s.powerState
  busy : t.busy = s.busy
  curOp : t.curOp = s.curOp
  opA : t.opA = s.opA
  opB : t.opB = s.opB
  tRef : t.tRef = s.tRef
  clkRun : t.clkRun = s.clkRun
  tie : t.tie = s.tie
  count : NoTick s → t.tc = s.tc

/-- So does the history, and nobody is answered: what the hardware's turns leave. -/
structure StillWait (s t : State) : Prop extends SameWait s t where
  history : NoTick s → t.sh = s.sh
  answer : t.answer = s.answer

theorem SameWait.noTick_iff {s t : State} (h : SameWait s t) : NoTick t ↔ NoTick s := by
  rw [NoTick, NoTick, h.clkRun, h.tie]

theorem StillWait.refl (s : State) : StillWait s s :=
  ⟨⟨rfl, rfl, rfl, rfl, rfl, rfl, rfl, rfl, fun _ => rfl⟩, fun _ => rfl, rfl⟩

theorem SameWait.trans {s t u : State} (h : SameWait s t) (h' : SameWait t u) : SameWait s u :=
  ⟨h'.powerState.trans h.powerState, h'.busy.trans h.busy, h'.curOp.trans h.curOp, h'.opA.trans h.opA,
    h'.opB.trans h.opB, h'.tRef.trans h.tRef, h'.clkRun.trans h.clkRun, h'.tie.trans h.tie,
    fun hn => (h'.count (h.noTick_iff.mpr hn)).trans (h.count hn)⟩

theorem StillWait.trans {s t u : State} (h : StillWait s t) (h' : StillWait t u) : StillWait s u :=
  ⟨h.toSameWait.trans h'.toSameWait, fun hn => (h'.history (h.noTick_iff.mpr hn)).trans (h.history hn),
    h'.answer.trans h.answer⟩

theorem stillWait_sawZero (s : State) (z : Bool) : StillWait s { s with sawZero := z } :=
  ⟨⟨rfl, rfl, rfl, rfl, rfl, rfl, rfl, rfl, fun _ => rfl⟩, fun _ => rfl, rfl⟩

theorem setPin_stillWait (s : State) (b : Bool) : StillWait s (s.setPin b) :=
  ⟨⟨rfl, rfl, rfl, rfl, rfl, rfl, rfl, rfl, fun _ => rfl⟩, fun _ => rfl, rfl⟩

/-- Awake, the wake handler only disarms. -/
theorem wakeHandler_stillWait {s : State} (hp : s.powerState = .active) : StillWait s (wakeHandler s) :=
  ⟨⟨hp.symm, rfl, rfl, rfl, rfl, rfl, rfl, rfl, fun _ => rfl⟩, fun _ => rfl, rfl⟩

theorem pinStep_stillWait {s : State} (hp : s.powerState = .active) (b : Bool) : StillWait s (pinStep s b) := by
  obtain ⟨-, -, -, hu⟩ | ⟨-, hu⟩ := pinStep_cases s b <;> rw [hu]
  · exact (setPin_stillWait s b).trans (wakeHandler_stillWait hp)
  · exact setPin_stillWait s b

theorem edgeStep_stillWait {s : State} (hp : s.powerState = .active) (b : Bool) : StillWait s (edgeStep s b) := by
  obtain ⟨-, -, -, hu⟩ | ⟨-, hu⟩ := edgeStep_cases s b <;> rw [hu]
  · exact (setPin_stillWait s b).trans (wakeHandler_stillWait hp)
  · exact setPin_stillWait s b

/-- A running clock's tick is serviced only unmasked (R43). -/
theorem fireTick_stillWait {s : State} (hclk : s.clkRun = true) : StillWait s (fireTick s) := by
  obtain htie | htie := Bool.eq_false_or_eq_true s.tie
  · have hno : ¬NoTick s := by simp [NoTick, hclk, htie]
    rw [fireTick_serviced htie]
    exact ⟨⟨rfl, rfl, rfl, rfl, rfl, rfl, rfl, rfl, fun hn => absurd hn hno⟩, fun hn => absurd hn hno, rfl⟩
  · rw [fireTick_deferred htie]
    exact ⟨⟨rfl, rfl, rfl, rfl, rfl, rfl, rfl, rfl, fun _ => rfl⟩, fun _ => rfl, rfl⟩

theorem tickStep_stillWait (s : State) : StillWait s (tickStep s) := by
  obtain hclk | hclk := Bool.eq_false_or_eq_true s.clkRun
  · rw [tickStep_running hclk]; exact fireTick_stillWait hclk
  · rw [tickStep_stopped hclk]; exact .refl s

theorem setPresc_stillWait (s : State) (n : Nat) : StillWait s { s with presc := n } :=
  ⟨⟨rfl, rfl, rfl, rfl, rfl, rfl, rfl, rfl, fun _ => rfl⟩, fun _ => rfl, rfl⟩

theorem countTick_stillWait (s : State) : StillWait s (countTick s) := by
  obtain ⟨-, hu⟩ | ⟨hclk, -, hu⟩ | ⟨-, -, hu⟩ := countTick_cases s <;> rw [hu]
  · exact .refl s
  · exact (setPresc_stillWait s 0).trans (fireTick_stillWait (s := { s with presc := 0 }) hclk)
  · exact setPresc_stillWait s _

/-- The pin's edge does not decide a wait. -/
theorem Unfinished.edgeStep {s : State} (h : Unfinished s) (b : Bool) : Unfinished (Machine.edgeStep s b) := by
  obtain ⟨-, -, -, hu⟩ | ⟨-, hu⟩ := edgeStep_cases s b <;> rw [hu] <;> exact h

/-- A clock edge in a wait that does not end: the pin, the poll, the prescaler. -/
theorem clockEdge_unfinished {s : State} (hp : s.powerState = .active) (hb : s.busy = true) (h : Unfinished s)
    (ha : s.answer = none) (b : Bool) (d : Drive) :
    clockEdge b d s = .next (countTick { edgeStep s b with sawZero := polledZero (edgeStep s b) }) := by
  have hedge := edgeStep_stillWait hp b
  have hpu := hedge.powerState.trans hp
  have hbu := hedge.busy.trans hb
  have hfg := fgStep_unfinished hpu hbu (h.edgeStep b) (hedge.answer.trans ha) d
  have hstarts : startsClock d (edgeStep s b) = false := by
    simp [startsClock, fgMove_busy hpu hbu, FgMove.issues]
  simp only [clockEdge, hp, hfg, mapNext_next, hstarts, Bool.false_eq_true, if_false]

/-- Every turn of the hardware short of a reset leaves such a wait in progress, and answers nobody. -/
theorem runTurn_stillWait {e : Turn} {s t : State} (hhw : e.hardware = true) (he : e.resets = false)
    (hp : s.powerState = .active) (hb : s.busy = true) (hu : Unfinished s) (ha : s.answer = none)
    (h : runTurn e s = .next t) : StillWait s t := by
  cases e with
  | pin b => cases h; exact pinStep_stillWait hp b
  | tick => cases h; exact tickStep_stillWait s
  | fg d =>
    rw [runTurn, fgStep_unfinished hp hb hu ha] at h
    cases h
    exact stillWait_sawZero s _
  | reset => cases he
  | cycle rst b d =>
    subst he
    have hedge : clockEdge b d s = .next t := h
    rw [clockEdge_unfinished hp hb hu ha] at hedge
    cases hedge
    exact ((edgeStep_stillWait hp b).trans (stillWait_sawZero _ _)).trans (countTick_stillWait _)
  | word x w => cases hhw

/-- The handler may issue SAMPLE alone (R181). -/
theorem mayIssue_isr_iff (i : Instr) : mayIssue .isr i = true ↔ i = .sample := by
  cases i <;> simp [mayIssue]

/-- The handler's words are refused or sample: neither touches a wait, and neither answers the client (R181). -/
theorem issueWord_isr {w : OpWord} {s t : State} (hi : s.isr = true) (h : issueWord w s = .next t) :
    SameWait s t ∧ (t.answer = s.answer ∨ ∃ r, t.answer = some ⟨.isr, r⟩) := by
  have hissuer := issuer_isr hi
  refine ⟨?_, hissuer ▸ issueWord_answer h⟩
  obtain ⟨i, -, hx⟩ | ⟨c, -, rfl⟩ := issueWord_cases h
  · obtain ⟨-, rfl⟩ | ⟨hm, rfl⟩ := exec_cases hx
    · exact ⟨rfl, rfl, rfl, rfl, rfl, rfl, rfl, rfl, fun _ => rfl⟩
    · rw [hissuer] at hm
      obtain rfl : i = .sample := (mayIssue_isr_iff i).mp hm
      exact ⟨rfl, rfl, rfl, rfl, rfl, rfl, rfl, rfl, fun _ => rfl⟩
  · exact ⟨rfl, rfl, rfl, rfl, rfl, rfl, rfl, rfl, fun _ => rfl⟩

/-- A word turn does not touch a wait in progress: a foreground's word is not taken, the handler's may sample. -/
theorem wordStep_sameWait {x : Issuer} {w : OpWord} {s t : State} (hb : s.busy = true) (ha : s.answer = none)
    (h : wordStep x w s = .next t) : SameWait s t ∧ t.response = none := by
  by_cases hx : x = .isr
  · subst hx
    obtain ⟨u, hu, rfl⟩ := mapNext_eq_next h
    obtain ⟨hsame, hanswer⟩ := issueWord_isr rfl hu
    refine ⟨⟨hsame.powerState, hsame.busy, hsame.curOp, hsame.opA, hsame.opB, hsame.tRef, hsame.clkRun, hsame.tie,
      hsame.count⟩, ?_⟩
    obtain hanswer | ⟨r, hr⟩ := hanswer
    · exact response_of_none (hanswer.trans ha)
    · exact response_of_other (s := { u with isr := false }) (by simp) hr
  · rw [wordStep_not_taken hx (.inr hb)] at h
    cases h
    exact ⟨(StillWait.refl s).toSameWait, response_of_none ha⟩

/-- Every turn short of a reset leaves such a wait in progress, with no response. -/
theorem runTurn_sameWait {e : Turn} {s t : State} (he : e.resets = false) (hp : s.powerState = .active)
    (hb : s.busy = true) (hu : Unfinished s) (ha : s.answer = none) (h : runTurn e s = .next t) :
    SameWait s t ∧ t.response = none := by
  by_cases hhw : e.hardware = true
  · have hstill := runTurn_stillWait hhw he hp hb hu ha h
    exact ⟨hstill.toSameWait, response_of_none (hstill.answer.trans ha)⟩
  · cases e with
    | word x w => exact wordStep_sameWait hb ha h
    | _ => exact absurd rfl hhw

/-! ### The hangs -/

theorem ClockStall.unfinished {s : State} (h : ClockStall s) : Unfinished s :=
  h.waiting.imp_right .inl

/-- The masked history has no bit outside the mask, so the pattern is never met (R102). -/
theorem PatternStall.unfinished {s : State} (h : PatternStall s) : Unfinished s :=
  .inr (.inr ⟨h.waiting, and_mask_ne_of_outside h.unsatisfiable s.sh⟩)

theorem PatternClockStall.unfinished {s : State} (h : PatternClockStall s) : Unfinished s :=
  .inr (.inr ⟨h.waiting, h.unmatched⟩)

theorem outputs_cmdReady_of_busy {s : State} (h : s.busy = true) : s.outputs.cmdReady = false := by
  simp [State.outputs, h]

/-- In a wait that does not end a foreground turn is a poll that takes the zero test alone. -/
theorem step_fg_unfinished {s t : State} {d : Drive} {es : List Turn} (h : s.turns = .fg d :: es)
    (hp : s.powerState = .active) (hb : s.busy = true) (hu : Unfinished s) (ht : step s = .next t) :
    t = { s.begin with sawZero := polledZero s } := by
  rw [step_eq_runTurn h, runTurn, fgStep_unfinished (s := s.begin) hp hb hu rfl] at ht
  cases ht
  rfl

/-! ### The cycles before a tick -/

/-- The foreground waits for the next tick of a running, unmasked clock (R84). -/
structure TickWait (s : State) : Prop where
  active : s.powerState = .active
  busy : s.busy = true
  waiting : s.curOp = 0x3#4
  target : s.tRef = s.tc
  running : s.clkRun = true
  unmasked : s.tie = true

theorem TickWait.unfinished {s : State} (h : TickWait s) : Unfinished s :=
  .inl ⟨h.waiting, h.target.symm⟩

/-- A clock edge in such a wait: all but the prescaler leaves the count, the history and the prescaler. -/
theorem step_cycle_tickWait {s : State} {b : Bool} {d : Drive} {es : List Turn} (h : TickWait s)
    (hturns : s.turns = .cycle false b d :: es) :
    ∃ u, step s = .next (countTick u) ∧ TickWait u ∧ u.params = s.params ∧ u.tc = s.tc ∧ u.sh = s.sh ∧
      u.presc = s.presc ∧ u.btnRaw = b ∧ u.turns = es := by
  have hedge := clockEdge_unfinished (s := s.begin) h.active h.busy h.unfinished rfl b d
  refine ⟨_, (step_eq_runTurn hturns).trans hedge, ?_⟩
  obtain ⟨-, -, -, hu⟩ | ⟨-, hu⟩ := edgeStep_cases s.begin b <;> rw [hu]
  · exact ⟨⟨rfl, h.busy, h.waiting, h.target, h.running, h.unmasked⟩, rfl, rfl, rfl, rfl, rfl, by simp [hturns]⟩
  · exact ⟨⟨h.active, h.busy, h.waiting, h.target, h.running, h.unmasked⟩, rfl, rfl, rfl, rfl, rfl, by simp [hturns]⟩

/-- After `k` cycles without a tick the prescaler has counted `k` and the wait stands where it was. -/
structure CyclesCounted (s : State) (k : Nat) (ts : List Turn) (u : State) : Prop where
  wait : TickWait u
  params : u.params = s.params
  tc : u.tc = s.tc
  sh : u.sh = s.sh
  presc : u.presc = s.presc + k
  turns : u.turns = ts

/-- Up to `TICK_DIV - 1` the cycles only count (R212 item 3). -/
theorem run_cycles {s : State} {b : Bool} {d : Drive} {n : Nat} {es : List Turn} (h : TickWait s)
    (hturns : s.turns = List.replicate n (.cycle false b d) ++ es) {k : Nat} (hk : k ≤ n)
    (hpresc : s.presc + k < s.params.tickDiv) :
    ∃ u, run k s = .next u ∧ CyclesCounted s k (List.replicate (n - k) (.cycle false b d) ++ es) u := by
  induction k with
  | zero => exact ⟨s, rfl, h, rfl, rfl, rfl, rfl, hturns⟩
  | succ k ih =>
    obtain ⟨u, hrun, hu⟩ := ih (by omega) (by omega)
    have hnext : u.turns = .cycle false b d :: (List.replicate (n - (k + 1)) (.cycle false b d) ++ es) := by
      rw [hu.turns, show n - k = (n - (k + 1)) + 1 by omega, List.replicate_succ, List.cons_append]
    obtain ⟨v, hstep, hwait, hparams, htc, hsh, hvpresc, -, hvturns⟩ := step_cycle_tickWait hu.wait hnext
    have hne : v.presc + 1 ≠ v.params.tickDiv := by rw [hvpresc, hu.presc, hparams, hu.params]; omega
    rw [countTick_counts hwait.running hne] at hstep
    refine ⟨_, (run_add hrun).trans (run_succ hstep), ?_⟩
    exact
      { wait := ⟨hwait.active, hwait.busy, hwait.waiting, hwait.target, hwait.running, hwait.unmasked⟩
        params := hparams.trans hu.params
        tc := htc.trans hu.tc
        sh := hsh.trans hu.sh
        presc := by rw [← Nat.add_assoc, ← hu.presc, ← hvpresc]
        turns := hvturns }

end Sys2Proof.Machine

namespace Sys2Proof.Proofs

open Sys2Proof.Machine

/-- Settles O53: without a tick the count stays where the wait wants it not to be. -/
theorem waitOnAStoppedClockNeverEnds : Obligations.WaitOnAStoppedClockNeverEnds := by
  intro s t h ht
  obtain ⟨hsame, hresponse⟩ := runTurn_sameWait (s := s.begin) (nextTurn_resets h.no_reset) h.active h.busy
    h.unfinished rfl ht
  have hstall : ClockStall t :=
    { active := hsame.powerState.trans h.active
      busy := hsame.busy.trans h.busy
      waiting := by rw [hsame.curOp, hsame.count h.no_tick, hsame.tRef]; exact h.waiting
      no_tick := hsame.noTick_iff.mpr h.no_tick
      no_reset := step_no_reset ht h.no_reset }
  refine ⟨hstall, hresponse, hstall.busy, outputs_cmdReady_of_busy hstall.busy, outputs_rspValid_of_none hresponse, ?_⟩
  intro d es hturns
  have hclock : s.curOp = 0x3#4 ∨ s.curOp = 0x4#4 := h.waiting.imp And.left And.left
  rw [step_fg_unfinished hturns h.active h.busy h.unfinished ht, polledZero_of_clock_wait hclock]
  rfl

/-- Settles O54: the operands of the wait, and with them its being unsatisfiable, outlast every turn. -/
theorem unsatisfiablePatternNeverEnds : Obligations.UnsatisfiablePatternNeverEnds := by
  intro s t h ht
  obtain ⟨hsame, hresponse⟩ := runTurn_sameWait (s := s.begin) (nextTurn_resets h.no_reset) h.active h.busy
    h.unfinished rfl ht
  refine ⟨⟨hsame.powerState.trans h.active, hsame.busy.trans h.busy, hsame.curOp.trans h.waiting, ?_,
    step_no_reset ht h.no_reset⟩, hresponse⟩
  rw [hsame.opA, hsame.opB]
  exact h.unsatisfiable

/-- Settles O60: under the hardware's turns, without a tick, the history stays unmatched. -/
theorem patternWaitOnAStoppedClockNeverEnds : Obligations.PatternWaitOnAStoppedClockNeverEnds := by
  intro s t h ht
  have hstill : StillWait s.begin t := runTurn_stillWait (nextTurn_hardware h.hardware) (nextTurn_resets h.no_reset)
    h.active h.busy h.unfinished rfl ht
  have hsh : t.sh = s.sh := hstill.history h.no_tick
  have hbusy : t.busy = true := hstill.busy.trans h.busy
  have hresponse : t.response = none := response_of_none hstill.answer
  have hstall : PatternClockStall t :=
    { active := hstill.powerState.trans h.active
      busy := hbusy
      waiting := hstill.curOp.trans h.waiting
      unmatched := by rw [hsh, hstill.opB, hstill.opA]; exact h.unmatched
      no_tick := hstill.noTick_iff.mpr h.no_tick
      no_reset := step_no_reset ht h.no_reset
      hardware := step_hardware ht h.hardware }
  refine ⟨hstall, hsh, hresponse, outputs_cmdReady_of_busy hbusy, outputs_rspValid_of_none hresponse, ?_⟩
  intro d es hturns
  rw [step_fg_unfinished hturns h.active h.busy h.unfinished ht, polledZero_of_waitPattern h.waiting]

/-- Settles O57: the cycles up to the last only count (`run_cycles`), and in the last the prescaler fires an unmasked
tick. -/
theorem tickComesInTheLastOfTickDivCycles : Obligations.TickComesInTheLastOfTickDivCycles := by
  intro s b d es hp hb hop htarget hclk htie hpresc hok hturns
  have hwait : TickWait s := ⟨hp, hb, hop, htarget, hclk, htie⟩
  have hdiv := four_le_tickDiv hok
  constructor
  · intro k hk
    obtain ⟨u, hrun, hu⟩ := run_cycles hwait hturns hk.le (by omega)
    exact ⟨u, hrun, hu.tc, hu.sh, by rw [hu.presc, hpresc, Nat.zero_add], hu.wait.busy⟩
  · obtain ⟨k, hk⟩ : ∃ k, s.params.tickDiv = k + 1 := ⟨s.params.tickDiv - 1, by omega⟩
    obtain ⟨u, hrun, hu⟩ := run_cycles (k := k) hwait hturns (by omega) (by omega)
    have hnext : u.turns = .cycle false b d :: es := by rw [hu.turns, hk, Nat.add_sub_cancel_left]; rfl
    obtain ⟨v, hstep, hv, hparams, htc, hsh, hvpresc, hraw, -⟩ := step_cycle_tickWait hu.wait hnext
    have hfires : v.presc + 1 = v.params.tickDiv := by rw [hvpresc, hu.presc, hparams, hu.params]; omega
    rw [countTick_fires hv.running hfires, fireTick_serviced (s := { v with presc := 0 }) hv.unmasked] at hstep
    rw [hk]
    refine ⟨_, (run_add hrun).trans (run_succ hstep), ?_, ?_, rfl⟩
    · simp [tickSucc, tickMod, htc, hu.tc, hparams, hu.params]
    · simp [hsh, hu.sh, hraw]

end Sys2Proof.Proofs
end

section
/-! PROOFS. The laws of the history and of the counter: the run law of SAMPLE (41_debounce_engine.md R105), the result of
a pattern wait as a least match (R107), the phase (43_pattern_engine.md R154), and the runs that only tick, or that stay
inside a critical section (20_memory.md R48, R49). -/

namespace Sys2Proof.Machine

/-! ### The history after some samples -/

theorem historyAfter_zero (h : Hist) (bs : List Bool) : historyAfter h bs 0 = h := rfl

theorem historyAfter_cons_succ (h : Hist) (b : Bool) (bs : List Bool) (k : Nat) :
    historyAfter h (b :: bs) (k + 1) = historyAfter (shiftIn h b) bs k := rfl

/-- One more sample is shifted in at the end. -/
theorem historyAfter_succ (h : Hist) (bs : List Bool) {k : Nat} (hk : k < bs.length) :
    historyAfter h bs (k + 1) = shiftIn (historyAfter h bs k) bs[k] := by
  rw [historyAfter, historyAfter, List.take_succ_eq_append_getElem hk, List.foldl_append]
  rfl

theorem historyAfter_append (h : Hist) (as bs : List Bool) (k : Nat) :
    historyAfter h (as ++ bs) (as.length + k) = historyAfter (historyAfter h as as.length) bs k := by
  simp only [historyAfter, List.take_length_add_append, List.foldl_append, List.take_length]

/-- SAMPLE, bit by bit: the newest sample in bit 0, the others one place up (R100). -/
theorem shiftIn_getLsbD (h : Hist) (b : Bool) {i : Nat} (hi : i < 8) :
    (shiftIn h b).getLsbD i = if i = 0 then b else h.getLsbD (i - 1) := by
  rw [shiftIn, BitVec.getLsbD_append]
  by_cases h0 : i = 0
  · simp [h0]
  · have h1 : ¬i < 1 := by omega
    have h7 : i - 1 < 7 := by omega
    simp [h0, h1, h7]

/-- The run law (R105): the last samples, newest lowest, and above them what was there. -/
theorem historyAfter_getLsbD (h : Hist) (bs : List Bool) {j : Nat} (hj : j ≤ bs.length) {i : Nat} (hi : i < 8) :
    (historyAfter h bs j).getLsbD i = if i < j then bs.getD (j - 1 - i) false else h.getLsbD (i - j) := by
  induction j generalizing i with
  | zero => simp [historyAfter_zero]
  | succ j ih =>
    rw [historyAfter_succ h bs hj, shiftIn_getLsbD _ _ hi]
    by_cases h0 : i = 0
    · subst h0
      rw [if_pos rfl, if_pos (Nat.succ_pos j), Nat.add_sub_cancel, Nat.sub_zero, List.getD_eq_getElem _ _ hj]
    · rw [if_neg h0, ih (by omega) (by omega)]
      by_cases hij : i < j + 1
      · rw [if_pos hij, if_pos (by omega), show j - 1 - (i - 1) = j + 1 - 1 - i by omega]
      · rw [if_neg hij, if_neg (by omega), show i - 1 - j = i - (j + 1) by omega]

/-- Samples at a constant level are the iterated shift. -/
theorem iterate_shiftIn (h : Hist) (b : Bool) (n : Nat) :
    (shiftIn · b)^[n] h = historyAfter h (List.replicate n b) n := by
  induction n generalizing h with
  | zero => rfl
  | succ n ih => rw [Function.iterate_succ_apply, ih, List.replicate_succ, historyAfter_cons_succ]

/-- The run law for samples at a constant level. -/
theorem iterate_shiftIn_getLsbD (h : Hist) (b : Bool) (n : Nat) {i : Nat} (hi : i < 8) :
    ((shiftIn · b)^[n] h).getLsbD i = if i < n then b else h.getLsbD (i - n) := by
  rw [iterate_shiftIn, historyAfter_getLsbD _ _ (by simp) hi]
  by_cases hin : i < n
  · rw [if_pos hin, if_pos hin, List.getD_replicate _ (by omega)]
  · rw [if_neg hin, if_neg hin]

/-- After eight samples at one level nothing older is left. -/
theorem iterate_shiftIn_of_eight_le (h : Hist) (b : Bool) {n : Nat} (hn : 8 ≤ n) :
    (shiftIn · b)^[n] h = if b then 0xFF#8 else 0x00#8 := by
  apply BitVec.eq_of_getLsbD_eq
  intro i hi
  rw [iterate_shiftIn_getLsbD h b n hi, if_pos (by omega)]
  cases b with
  | false => simp
  | true =>
    rw [if_pos rfl, show (0xFF#8 : Hist) = BitVec.allOnes 8 by decide, BitVec.getLsbD_allOnes]
    simp [hi]

/-! ### The least match (R107) -/

/-- `k` is the least number of samples after which the history has the pattern, and `z` whether `saw_zero` is then
set, having been `z₀` before the first poll. -/
structure LeastMatch (z₀ : Bool) (h expected mask : Hist) (bs : List Bool) (k : Nat) (z : Bool) : Prop where
  within : k ≤ bs.length
  matched : historyAfter h bs k &&& mask = expected
  least : ∀ j, j < k → historyAfter h bs j &&& mask ≠ expected
  sawZero : z = true ↔ z₀ = true ∨ ∃ j, j ≤ k ∧ historyAfter h bs j = 0x00#8

/-- Where the history has the pattern at once, that is the least match. -/
theorem leastMatch_of_matched {z₀ z : Bool} {h expected mask : Hist} {bs : List Bool} {k : Nat}
    (hm : h &&& mask = expected) :
    LeastMatch z₀ h expected mask bs k z ↔ k = 0 ∧ (z₀ || h == 0x00#8) = z := by
  constructor
  · intro hl
    obtain rfl : k = 0 := by
      by_contra hk
      exact hl.least 0 (by omega) hm
    refine ⟨rfl, ?_⟩
    rw [Bool.eq_iff_iff, hl.sawZero]
    simp [historyAfter_zero]
  · rintro ⟨rfl, rfl⟩
    exact ⟨Nat.zero_le _, hm, nofun, by simp [historyAfter_zero]⟩

/-- Where it has not, the least match is one sample later, the zero test of this poll taken along. -/
theorem leastMatch_cons {z₀ z : Bool} {h expected mask : Hist} {b : Bool} {bs : List Bool} {k : Nat}
    (hm : h &&& mask ≠ expected) :
    LeastMatch z₀ h expected mask (b :: bs) (k + 1) z ↔
      LeastMatch (z₀ || h == 0x00#8) (shiftIn h b) expected mask bs k z := by
  have hzero : (∃ j, j ≤ k + 1 ∧ historyAfter h (b :: bs) j = 0x00#8) ↔
      h = 0x00#8 ∨ ∃ j, j ≤ k ∧ historyAfter (shiftIn h b) bs j = 0x00#8 := by
    constructor
    · rintro ⟨j, hj, hz⟩
      cases j with
      | zero => exact .inl hz
      | succ j => exact .inr ⟨j, by omega, hz⟩
    · rintro (hz | ⟨j, hj, hz⟩)
      · exact ⟨0, by omega, hz⟩
      · exact ⟨j + 1, by omega, hz⟩
  constructor
  · intro hl
    refine ⟨by simpa using hl.within, hl.matched, fun j hj => hl.least (j + 1) (by omega), ?_⟩
    rw [hl.sawZero, hzero]
    simp [or_assoc]
  · intro hl
    refine ⟨by simpa using hl.within, hl.matched, fun j hj => ?_, ?_⟩
    · cases j with
      | zero => exact hm
      | succ j => exact hl.least j (by omega)
    · rw [hl.sawZero, hzero]
      simp [or_assoc]

theorem waitResultFrom_of_matched {h expected mask : Hist} (hm : h &&& mask = expected) (z₀ : Bool)
    (bs : List Bool) : waitResultFrom z₀ h expected mask bs = some (0, z₀ || h == 0x00#8) := by
  cases bs <;> simp [waitResultFrom, patternHolds, hm]

theorem waitResultFrom_nil {h expected mask : Hist} (hm : h &&& mask ≠ expected) (z₀ : Bool) :
    waitResultFrom z₀ h expected mask [] = none := by
  simp [waitResultFrom, patternHolds, hm]

theorem waitResultFrom_cons {h expected mask : Hist} (hm : h &&& mask ≠ expected) (z₀ b : Bool) (bs : List Bool) :
    waitResultFrom z₀ h expected mask (b :: bs) =
      (waitResultFrom (z₀ || h == 0x00#8) (shiftIn h b) expected mask bs).map fun r => (r.1 + 1, r.2) := by
  simp [waitResultFrom, patternHolds, hm]

/-- `WaitResult` finds the least match (R107), by induction on the samples. -/
theorem waitResultFrom_eq_some_iff (z₀ : Bool) (h expected mask : Hist) (bs : List Bool) (k : Nat) (z : Bool) :
    waitResultFrom z₀ h expected mask bs = some (k, z) ↔ LeastMatch z₀ h expected mask bs k z := by
  induction bs generalizing z₀ h k with
  | nil =>
    by_cases hm : h &&& mask = expected
    · rw [waitResultFrom_of_matched hm, leastMatch_of_matched hm, Option.some.injEq, Prod.mk.injEq, eq_comm (a := 0)]
    · rw [waitResultFrom_nil hm]
      refine iff_of_false nofun fun hl => ?_
      have hk : k = 0 := Nat.le_zero.mp hl.within
      exact hm (by simpa [hk, historyAfter_zero] using hl.matched)
  | cons b bs ih =>
    by_cases hm : h &&& mask = expected
    · rw [waitResultFrom_of_matched hm, leastMatch_of_matched hm, Option.some.injEq, Prod.mk.injEq, eq_comm (a := 0)]
    · rw [waitResultFrom_cons hm]
      cases k with
      | zero => exact iff_of_false (by simp) fun hl => hm hl.matched
      | succ k => rw [leastMatch_cons hm, ← ih]; simp

/-- `WaitResult` finds nothing only where no history has the pattern. -/
theorem not_matched_of_waitResultFrom_eq_none {z₀ : Bool} {h expected mask : Hist} {bs : List Bool}
    (hnone : waitResultFrom z₀ h expected mask bs = none) {j : Nat} (hj : j ≤ bs.length) :
    historyAfter h bs j &&& mask ≠ expected := by
  intro hm
  have hex : ∃ k, historyAfter h bs k &&& mask = expected := ⟨j, hm⟩
  have hleast : LeastMatch z₀ h expected mask bs (Nat.find hex)
      (decide (z₀ = true ∨ ∃ i, i ≤ Nat.find hex ∧ historyAfter h bs i = 0x00#8)) :=
    ⟨(Nat.find_min' hex hm).trans hj, Nat.find_spec hex, fun i hi => Nat.find_min hex hi, by simp⟩
  rw [← waitResultFrom_eq_some_iff, hnone] at hleast
  cases hleast

/-! ### The phase -/

/-- The phase steps round its period (R153). -/
theorem iterate_nextPhase {p : Params} {idx phase : Nat} (h : phase < period p idx) (n : Nat) :
    (nextPhase p idx)^[n] phase = (phase + n) % period p idx := by
  induction n with
  | zero => exact (Nat.mod_eq_of_lt h).symm
  | succ n ih => rw [Function.iterate_succ_apply', ih, nextPhase, Nat.mod_add_mod, Nat.add_assoc]

/-! ### Runs that only tick -/

/-- The count steps round `2^TICK_W` (R87). -/
theorem iterate_tickSucc {p : Params} {c : Nat} (h : c < 2 ^ p.tickW) (n : Nat) :
    (tickSucc p)^[n] c = (c + n) % 2 ^ p.tickW := by
  induction n with
  | zero => exact (Nat.mod_eq_of_lt h).symm
  | succ n ih => rw [Function.iterate_succ_apply', ih, tickSucc, tickMod, Nat.mod_add_mod, Nat.add_assoc]

theorem step_tick_serviced {s : State} {es : List Turn} (h : s.turns = .tick :: es) (hclk : s.clkRun = true)
    (htie : s.tie = true) : step s = .next (tickHandler s.begin) := by
  rw [step_eq_runTurn h, runTurn, tickStep_running (s := s.begin) hclk, fireTick_serviced (s := s.begin) htie]

/-- `n` serviced ticks are `n` counts and `n` samples of the pin as it is (R48, R81). -/
theorem run_ticks {s : State} {n : Nat} {es : List Turn} (hclk : s.clkRun = true) (htie : s.tie = true)
    (h : s.turns = List.replicate n .tick ++ es) :
    ∃ t, run n s = .next t ∧ t.tc = (tickSucc s.params)^[n] s.tc ∧ t.sh = (shiftIn · s.btnRaw)^[n] s.sh ∧
      t.turns = es := by
  induction n generalizing s with
  | zero => exact ⟨s, rfl, rfl, rfl, h⟩
  | succ n ih =>
    rw [List.replicate_succ, List.cons_append] at h
    obtain ⟨t, hrun, htc, hsh, hturns⟩ := ih (s := tickHandler s.begin) hclk htie (by simp [h])
    exact ⟨t, (run_succ (step_tick_serviced h hclk htie)).trans hrun, htc, hsh, hturns⟩

/-! ### Critical sections (R49) -/

/-- What a client's critical section that starts from `s₀` keeps. -/
structure SectionFrozen (s₀ s : State) : Prop where
  masked : s.tie = false
  seq : s.seq = .cFun
  active : s.powerState = .active
  no_handler : s.isr = false
  inside : ∀ e ∈ s.turns, e.inSection = true
  history : s.sh = s₀.sh
  count : s.tc = s₀.tc

theorem nextTurn_inSection {s : State} (h : ∀ e ∈ s.turns, e.inSection = true) : s.nextTurn.inSection = true := by
  unfold State.nextTurn
  cases hs : s.turns with
  | nil => rfl
  | cons e es => exact h e (by simp [hs])

/-- A client's word inside a section: it neither unmasks nor restarts the clock, so it writes neither register. -/
theorem issueWord_inSection {w : OpWord} {s t : State} (hx : s.issuer = .client) (htie : s.tie = false)
    (hunmask : (decode w).toOption ≠ some .tickUnmask) (hstart : (decode w).toOption ≠ some .clkStart)
    (h : issueWord w s = .next t) :
    t.sh = s.sh ∧ t.tc = s.tc ∧ t.tie = false ∧ t.powerState = s.powerState := by
  obtain ⟨i, hw, hi⟩ | ⟨c, -, rfl⟩ := issueWord_cases h
  · rw [hw] at hunmask hstart
    have hiunmask : i ≠ .tickUnmask := fun hi => hunmask (congrArg some hi)
    have histart : i ≠ .clkStart := fun hi => hstart (congrArg some hi)
    obtain ⟨hpower, -, -, -, hhist, -, -, -⟩ := Proofs.clientWritesOnlyWhatItMay i s t hx hi
    obtain ⟨hsh, htc⟩ := hhist hiunmask
    refine ⟨hsh, htc.resolve_right fun hc => histart hc.1, ?_, hpower⟩
    by_cases hmask : i = .tickMask
    · subst hmask
      obtain ⟨-, rfl⟩ | ⟨-, rfl⟩ := exec_cases hi
      · exact htie
      · rfl
    · exact (exec_tie hi hmask hiunmask).trans htie
  · exact ⟨rfl, rfl, htie, rfl⟩

/-- Inside a section the enabled move is a poll, the client's word, or none. -/
theorem fgMove_inSection {s : State} {p : Port} (hp : s.powerState = .active) (hq : s.seq = .cFun)
    (hfun : p.funDone = false) :
    (s.busy = true ∧ fgMove p s = .poll) ∨ fgMove p s = .accept p.cmd ∨ fgMove p s = .quiet := by
  obtain hb | hb := Bool.eq_false_or_eq_true s.busy
  · exact .inl ⟨hb, fgMove_busy hp hb p⟩
  · right
    rw [fgMove_idle hp hb, hq]
    cases hv : p.cmdValid with
    | true => exact .inl (by simp [seqMove, hfun, hv])
    | false => exact .inr (by simp [seqMove, hfun, hv])

/-- A foreground turn inside a section leaves it as it is. -/
theorem SectionFrozen.fgStep {s₀ s t : State} {p : Port} (h : SectionFrozen s₀ s)
    (he : (Turn.fg (.ports p)).inSection = true) (ht : Machine.fgStep (.ports p) s = .next t) :
    SectionFrozen s₀ t := by
  obtain ⟨hfun, hunmask, hstart⟩ : p.funDone = false ∧ (decode p.cmd).toOption ≠ some .tickUnmask ∧
      (decode p.cmd).toOption ≠ some .clkStart := by simpa [Turn.inSection, and_assoc] using he
  have hinside : ∀ e ∈ t.turns, e.inSection = true := by rw [fgStep_turns ht]; exact h.inside
  obtain ⟨u, hu, rfl⟩ := mapNext_eq_next ht
  have hfg : ∀ v : State, v.seq = .cFun → clientAfter (.ports p) s v = v :=
    fun v hv => clientAfter_ports (by rw [hv, h.seq]) p
  obtain ⟨hb, hm⟩ | hm | hm := fgMove_inSection h.active h.seq hfun
  · rw [Drive.port, hm] at hu
    cases hu
    have hq : (pollStep s).seq = .cFun := (pollStep_seq_cFun_iff hb).mpr h.seq
    rw [hfg _ hq] at hinside ⊢
    obtain ⟨z, hz⟩ | ⟨z, l, q, v, hz, -⟩ := pollStep_cases hb <;> rw [hz] at hq hinside ⊢ <;>
      exact ⟨h.masked, hq, h.active, h.no_handler, hinside, h.history, h.count⟩
  · rw [Drive.port, hm] at hu
    have hsurr := issueWord_surroundings (t := u) hu
    have hq : u.seq = .cFun := hsurr.seq.trans h.seq
    obtain ⟨hsh, htc, htie, hpower⟩ := issueWord_inSection (issuer_client h.no_handler h.seq) h.masked hunmask hstart hu
    rw [hfg _ hq] at hinside ⊢
    exact ⟨htie, hq, hpower.trans h.active, hsurr.isr.trans h.no_handler, hinside, hsh.trans h.history,
      htc.trans h.count⟩
  · rw [Drive.port, hm] at hu
    cases hu
    rw [hfg _ h.seq]
    exact h

/-- Every turn that stays inside the section leaves it as it is (R49). -/
theorem step_sectionFrozen (s₀ s t : State) (h : SectionFrozen s₀ s) (ht : step s = .next t) :
    SectionFrozen s₀ t := by
  have he := nextTurn_inSection h.inside
  have hbegin : SectionFrozen s₀ s.begin :=
    { h with inside := fun e he => h.inside e (List.mem_of_mem_tail he) }
  have hrun : runTurn s.nextTurn s.begin = .next t := ht
  generalize s.nextTurn = e at he hrun
  cases e with
  | pin b =>
    cases hrun
    obtain ⟨-, -, -, hu⟩ | ⟨-, hu⟩ := pinStep_cases s.begin b <;> rw [hu]
    · exact { hbegin with active := rfl }
    · exact { hbegin with }
  | tick =>
    cases hrun
    obtain hclk | hclk := Bool.eq_false_or_eq_true s.begin.clkRun
    · rw [tickStep_running hclk, fireTick_deferred hbegin.masked]
      exact { hbegin with }
    · rw [tickStep_stopped hclk]
      exact hbegin
  | fg d =>
    cases d with
    | ports p => exact hbegin.fgStep he hrun
    | engine => cases he
  | reset | cycle _ _ _ | word _ _ => cases he

end Sys2Proof.Machine

namespace Sys2Proof.Proofs

open Sys2Proof.Machine

/-- Settles O44: the run law bit by bit (`iterate_shiftIn_getLsbD`); the two worked rows are evaluated. -/
theorem sampleRunLaw : Obligations.SampleRunLaw :=
  ⟨fun h b n _ _ hi => iterate_shiftIn_getLsbD h b n hi, fun h b _ hn => iterate_shiftIn_of_eight_le h b hn,
    by decide, by decide⟩

/-- Settles O45: the iterated count is taken modulo `2^TICK_W` (`run_ticks`, `iterate_tickSucc`). -/
theorem servicedTicksCountAndSampleTogether : Obligations.ServicedTicksCountAndSampleTogether := by
  intro s n es hclk htie htc h
  obtain ⟨t, hrun, httc, hsh, hturns⟩ := run_ticks hclk htie h
  exact ⟨t, hrun, httc.trans (iterate_tickSucc htc n), hsh, hturns⟩

/-- Settles O46: what the section keeps is an invariant of its turns (`step_sectionFrozen`). -/
theorem criticalSectionFreezesHistoryAndCounter : Obligations.CriticalSectionFreezesHistoryAndCounter := by
  intro s t n htie hq hp hi hinside hrun
  have hfrozen : SectionFrozen s t :=
    run_keeps (step_sectionFrozen s) ⟨htie, hq, hp, hi, hinside, rfl, rfl⟩ hrun
  exact ⟨hfrozen.history, hfrozen.count, hfrozen.masked⟩

/-- Settles O49: `WaitResult` starts with `saw_zero` clear (`waitResultFrom_eq_some_iff`). -/
theorem waitResultIsTheLeastMatch : Obligations.WaitResultIsTheLeastMatch := by
  intro h expected mask bs k z
  rw [waitResult, waitResultFrom_eq_some_iff]
  constructor
  · rintro ⟨hwithin, hmatched, hleast, hzero⟩
    exact ⟨hwithin, hmatched, hleast, by simpa using hzero⟩
  · rintro ⟨hwithin, hmatched, hleast, hzero⟩
    exact ⟨hwithin, hmatched, hleast, by simpa using hzero⟩

/-- Settles O58: `PERIOD` steps add the period, which the modulus takes off again. -/
theorem phaseReturnsAfterItsPeriod : Obligations.PhaseReturnsAfterItsPeriod := by
  intro p idx phase h
  refine ⟨?_, fun hone => ?_⟩
  · rw [iterate_nextPhase h, Nat.add_mod_right, Nat.mod_eq_of_lt h]
  · rw [nextPhase, hone, Nat.mod_one]
    omega

end Sys2Proof.Proofs
end

section
/-! PROOFS. Waits under one poll per tick (20_memory.md R47): what a round of one tick and one poll leaves, and from it
what DELAY (40_sample_clock.md R85, R86), WAIT_PATTERN (41_debounce_engine.md R107) and the settling steps
(42_power_and_system.md R136 to R138) wait for. -/

namespace Sys2Proof.Machine

/-! ### Rounds of one tick and one poll -/

/-- Two states agree on all that the pin, a serviced tick and a poll that does not complete leave, with the clock
running unmasked in both. -/
structure SamePlace (s t : State) : Prop where
  active : t.powerState = .active
  running : t.clkRun = true
  unmasked : t.tie = true
  params : t.params = s.params
  long : t.long = s.long
  seq : t.seq = s.seq
  busy : t.busy = s.busy
  curOp : t.curOp = s.curOp
  opA : t.opA = s.opA
  opB : t.opB = s.opB
  tRef : t.tRef = s.tRef
  isr : t.isr = s.isr

theorem SamePlace.refl {s : State} (hp : s.powerState = .active) (hclk : s.clkRun = true) (htie : s.tie = true) :
    SamePlace s s :=
  ⟨hp, hclk, htie, rfl, rfl, rfl, rfl, rfl, rfl, rfl, rfl, rfl⟩

theorem SamePlace.trans {s t u : State} (h : SamePlace s t) (h' : SamePlace t u) : SamePlace s u :=
  ⟨h'.active, h'.running, h'.unmasked, h'.params.trans h.params, h'.long.trans h.long, h'.seq.trans h.seq,
    h'.busy.trans h.busy, h'.curOp.trans h.curOp, h'.opA.trans h.opA, h'.opB.trans h.opB, h'.tRef.trans h.tRef,
    h'.isr.trans h.isr⟩

/-- One line `@ T(b)`: the pin takes the level `b` and one tick is serviced. -/
structure Ticked (s : State) (b : Bool) (es : List Turn) (t : State) : Prop extends SamePlace s t where
  sh : t.sh = shiftIn s.sh b
  tc : t.tc = tickSucc s.params s.tc
  sawZero : t.sawZero = s.sawZero
  turns : t.turns = es

theorem run_lineT {s : State} {b : Bool} {es : List Turn} (hp : s.powerState = .active) (hclk : s.clkRun = true)
    (htie : s.tie = true) (h : s.turns = lineT b ++ es) : ∃ t, run 2 s = .next t ∧ Ticked s b es t := by
  have hpin : step s = .next (pinStep s.begin b) := step_eq_runTurn h
  obtain ⟨u, hu, hplace, hsh, htc, hzero, hraw, hturns⟩ : ∃ u, step s = .next u ∧ SamePlace s u ∧ u.sh = s.sh ∧
      u.tc = s.tc ∧ u.sawZero = s.sawZero ∧ u.btnRaw = b ∧ u.turns = .tick :: es := by
    refine ⟨_, hpin, ?_⟩
    have hturns : s.turns.tail = .tick :: es := by rw [h]; rfl
    obtain ⟨-, -, -, hu⟩ | ⟨-, hu⟩ := pinStep_cases s.begin b <;> rw [hu]
    · exact ⟨⟨rfl, hclk, htie, rfl, rfl, rfl, rfl, rfl, rfl, rfl, rfl, rfl⟩, rfl, rfl, rfl, rfl, hturns⟩
    · exact ⟨⟨hp, hclk, htie, rfl, rfl, rfl, rfl, rfl, rfl, rfl, rfl, rfl⟩, rfl, rfl, rfl, rfl, hturns⟩
  have htick := step_tick_serviced hturns hplace.running hplace.unmasked
  refine ⟨tickHandler u.begin, (run_succ hu).trans (run_succ htick), ?_⟩
  exact
    { hplace with
      sh := by simp [hsh, hraw]
      tc := by simp [htc, hplace.params]
      sawZero := hzero
      turns := by simp [hturns] }

/-- After the lines of `bs` the samples are in the history and the ticks counted. -/
theorem run_lines {s : State} {bs : List Bool} {es : List Turn} (hp : s.powerState = .active)
    (hclk : s.clkRun = true) (htie : s.tie = true) (h : s.turns = bs.flatMap lineT ++ es) :
    ∃ t, run (2 * bs.length) s = .next t ∧ SamePlace s t ∧ t.sh = historyAfter s.sh bs bs.length ∧
      t.tc = (tickSucc s.params)^[bs.length] s.tc ∧ t.turns = es := by
  induction bs generalizing s with
  | nil => exact ⟨s, rfl, .refl hp hclk htie, rfl, rfl, h⟩
  | cons b bs ih =>
    rw [List.flatMap_cons, List.append_assoc] at h
    obtain ⟨u, hu, hticked⟩ := run_lineT hp hclk htie h
    obtain ⟨t, ht, hplace, hsh, htc, hturns⟩ := ih hticked.active hticked.running hticked.unmasked hticked.turns
    refine ⟨t, ?_, hticked.toSamePlace.trans hplace, ?_, ?_, hturns⟩
    · rw [List.length_cons, show 2 * (bs.length + 1) = 2 + 2 * bs.length by omega]
      exact (run_add hu).trans ht
    · rw [hsh, hticked.sh]; rfl
    · rw [htc, hticked.tc, hticked.params]; rfl

/-- Whether a poll completes is decided by the wait, the history and the count. -/
theorem Unfinished.congr {s t : State} (h : Unfinished s) (hop : t.curOp = s.curOp) (hA : t.opA = s.opA)
    (hB : t.opB = s.opB) (hRef : t.tRef = s.tRef) (hsh : t.sh = s.sh) (htc : t.tc = s.tc) : Unfinished t := by
  rw [Unfinished, hop, hA, hB, hRef, hsh, htc]
  exact h

/-- A wait with one poll due now and one after each tick of the levels `bs`. -/
structure DenseWait (s : State) (bs : List Bool) (es : List Turn) : Prop where
  active : s.powerState = .active
  busy : s.busy = true
  running : s.clkRun = true
  unmasked : s.tie = true
  turns : s.turns = quietFg :: denseTurns bs ++ es

/-- After `j` rounds the wait stands before its next poll, the samples and counts taken, `saw_zero` set by the
polls of a WAIT_PATTERN on the way. -/
structure Polled (s : State) (bs : List Bool) (es : List Turn) (j : Nat) (u : State) : Prop extends SamePlace s u where
  sh : u.sh = historyAfter s.sh bs j
  tc : u.tc = (tickSucc s.params)^[j] s.tc
  sawZero : u.sawZero = true ↔
    s.sawZero = true ∨ s.curOp = 0x7#4 ∧ ∃ i, i < j ∧ historyAfter s.sh bs i = 0x00#8
  turns : u.turns = quietFg :: denseTurns (bs.drop j) ++ es

/-- The wait as it stands before poll `i`, for the poll's completion test. -/
def beforePoll (s : State) (bs : List Bool) (i : Nat) : State :=
  { s with sh := historyAfter s.sh bs i, tc := (tickSucc s.params)^[i] s.tc }

theorem Polled.unfinished {s u : State} {bs : List Bool} {es : List Turn} {j : Nat} (h : Polled s bs es j u)
    (hun : Unfinished (beforePoll s bs j)) : Unfinished u :=
  hun.congr h.curOp h.opA h.opB h.tRef h.sh h.tc

/-- While no poll completes the rounds go on. -/
theorem run_rounds {s : State} {bs : List Bool} {es : List Turn} (h : DenseWait s bs es) {j : Nat}
    (hj : j ≤ bs.length) (hun : ∀ i, i < j → Unfinished (beforePoll s bs i)) :
    ∃ u, run (3 * j) s = .next u ∧ Polled s bs es j u := by
  induction j with
  | zero =>
    exact ⟨s, rfl, { SamePlace.refl h.active h.running h.unmasked with
      sh := rfl, tc := rfl, sawZero := by simp, turns := h.turns }⟩
  | succ j ih =>
    obtain ⟨u, hrun, hu⟩ := ih (by omega) fun i hi => hun i (by omega)
    have hunfinished := hu.unfinished (hun j (by omega))
    have hbusy : u.busy = true := hu.busy.trans h.busy
    have hturns : u.turns = quietFg :: (lineT bs[j] ++ (quietFg :: denseTurns (bs.drop (j + 1)) ++ es)) := by
      rw [hu.turns, List.drop_eq_getElem_cons hj, denseTurns, List.flatMap_cons]
      simp [denseTurns]
    have hpoll : step u = .next { u.begin with sawZero := polledZero u } := by
      rw [step_eq_runTurn hturns]
      exact fgStep_unfinished (s := u.begin) hu.active hbusy hunfinished rfl _
    obtain ⟨v, hv, hticked⟩ := run_lineT (s := { u.begin with sawZero := polledZero u }) (b := bs[j])
      (es := quietFg :: denseTurns (bs.drop (j + 1)) ++ es) hu.active hu.running hu.unmasked (by simp [hturns])
    have hplace : SamePlace u { u.begin with sawZero := polledZero u } :=
      ⟨hu.active, hu.running, hu.unmasked, rfl, rfl, rfl, rfl, rfl, rfl, rfl, rfl, rfl⟩
    refine ⟨v, ?_, { (hu.toSamePlace.trans hplace).trans hticked.toSamePlace with
      sh := ?_, tc := ?_, sawZero := ?_, turns := hticked.turns }⟩
    · rw [show 3 * (j + 1) = 3 * j + (1 + 2) by omega]
      exact (run_add hrun).trans ((run_add (run_succ hpoll)).trans hv)
    · rw [hticked.sh, historyAfter_succ _ _ hj, ← hu.sh]; rfl
    · rw [hticked.tc, Function.iterate_succ_apply', ← hu.tc, ← hu.params]; rfl
    · have hlast : (∃ i, i < j + 1 ∧ historyAfter s.sh bs i = 0x00#8) ↔
          (∃ i, i < j ∧ historyAfter s.sh bs i = 0x00#8) ∨ historyAfter s.sh bs j = 0x00#8 := by
        simp only [Nat.lt_succ_iff_lt_or_eq, or_and_right, exists_or, exists_eq_left]
      rw [hticked.sawZero, hlast]
      simp only [polledZero, Bool.or_eq_true, Bool.and_eq_true, beq_iff_eq, hu.sawZero, hu.curOp, hu.sh, and_or_left,
        or_assoc]

/-- At every poll up to one that completes the wait is in progress, with no response. -/
theorem run_poll_unfinished {s : State} {bs : List Bool} {es : List Turn} (h : DenseWait s bs es) {j : Nat}
    (hj : j ≤ bs.length) (hun : ∀ i, i ≤ j → Unfinished (beforePoll s bs i)) :
    ∃ u, run (1 + 3 * j) s = .next u ∧ SamePlace s u ∧ u.tc = (tickSucc s.params)^[j] s.tc ∧ u.response = none := by
  obtain ⟨u, hrun, hu⟩ := run_rounds h hj fun i hi => hun i hi.le
  have hpoll : step u = .next { u.begin with sawZero := polledZero u } := by
    rw [step_eq_runTurn hu.turns]
    exact fgStep_unfinished (s := u.begin) hu.active (hu.busy.trans h.busy) (hu.unfinished (hun j le_rfl)) rfl _
  rw [Nat.add_comm]
  exact ⟨_, (run_add hrun).trans (run_succ hpoll),
    ⟨hu.active, hu.running, hu.unmasked, hu.params, hu.long, hu.seq, hu.busy, hu.curOp, hu.opA, hu.opB, hu.tRef, hu.isr⟩,
    hu.tc, rfl⟩

/-- The poll after the rounds, whether or not it completes. -/
theorem run_poll {s : State} {bs : List Bool} {es : List Turn} (h : DenseWait s bs es) {j : Nat}
    (hj : j ≤ bs.length) (hun : ∀ i, i < j → Unfinished (beforePoll s bs i)) :
    ∃ u, Polled s bs es j u ∧ run (1 + 3 * j) s = .next (pollStep u.begin) := by
  obtain ⟨u, hrun, hu⟩ := run_rounds h hj hun
  have hbusy : u.begin.busy = true := hu.busy.trans h.busy
  have hpoll : step u = .next (pollStep u.begin) := by
    rw [step_poll hu.turns hu.active hbusy, clientAfter_ports (pollStep_seq_cFun_iff hbusy)]
  refine ⟨u, hu, ?_⟩
  rw [Nat.add_comm]
  exact (run_add hrun).trans (run_succ hpoll)

/-! ### WAIT_PATTERN: the result is `WaitResult`'s (R107) -/

theorem beforePoll_unmatched {s : State} {bs : List Bool} {i : Nat} (hop : s.curOp = 0x7#4)
    (hm : historyAfter s.sh bs i &&& s.opB ≠ s.opA) : Unfinished (beforePoll s bs i) :=
  .inr (.inr ⟨hop, hm⟩)

/-- Under one poll per tick the poll at the least match ends the wait, with its zero observation. -/
theorem run_waitPattern {s : State} {bs : List Bool} {es : List Turn} {k : Nat} {z : Bool} (h : DenseWait s bs es)
    (hop : s.curOp = 0x7#4) (hl : LeastMatch s.sawZero s.sh s.opA s.opB bs k z) :
    ∃ u, Polled s bs es k u ∧ (u.sawZero || u.sh == 0x00#8) = z ∧
      run (1 + 3 * k) s = .next (settleAdvance (patternDone u.begin)) := by
  obtain ⟨u, hu, hrun⟩ := run_poll h hl.within fun i hi => beforePoll_unmatched hop (hl.least i hi)
  have hmatched : u.begin.sh &&& u.begin.opB = u.begin.opA := by
    rw [begin_sh, begin_opB, begin_opA, hu.sh, hu.opB, hu.opA]
    exact hl.matched
  refine ⟨u, hu, ?_, hrun.trans (congrArg Host.Outcome.next (pollStep_matched (hu.curOp.trans hop) hmatched))⟩
  have hlast : (∃ i, i ≤ k ∧ historyAfter s.sh bs i = 0x00#8) ↔
      (∃ i, i < k ∧ historyAfter s.sh bs i = 0x00#8) ∨ historyAfter s.sh bs k = 0x00#8 := by
    simp only [Nat.le_iff_lt_or_eq, or_and_right, exists_or, exists_eq_left]
  rw [Bool.eq_iff_iff, hl.sawZero, hlast, Bool.or_eq_true, beq_iff_eq, hu.sawZero, hu.sh]
  simp only [hop, true_and, or_assoc]

/-- The end of a client's wait is its response (R151). -/
theorem patternDone_response {s : State} (hi : s.isr = false) (hq : s.seq = .cFun) :
    (patternDone s).response = some (.done (boolResult (s.sawZero || s.sh == 0x00#8))) :=
  response_of_client (by rw [patternDone, issuer_client hi hq])

/-! ### DELAY -/

theorem eight_bits_lt {p : Params} (hok : p.wellFormed = true) (n : BitVec 8) : n.toNat < 2 ^ p.tickW :=
  n.isLt.trans_le (Nat.pow_le_pow_right (by omega) (eight_le_tickW hok))

/-- DELAY's target modulo `2^TICK_W`: the sum, or the sum wrapped once (R85, R87). -/
theorem delayTarget_cases {p : Params} (hok : p.wellFormed = true) {tc : Nat} (htc : tc < 2 ^ p.tickW) (n : BitVec 8) :
    (tc + n.toNat < 2 ^ p.tickW ∧ delayTarget p tc n = tc + n.toNat) ∨
    (2 ^ p.tickW ≤ tc + n.toNat ∧ delayTarget p tc n = tc + n.toNat - 2 ^ p.tickW) := by
  have hn := eight_bits_lt hok n
  have htarget : delayTarget p tc n = (tc + n.toNat) % 2 ^ p.tickW := by
    rw [delayTarget, zextTick, tickMod, tickMod, Nat.mod_eq_of_lt hn]
  rw [htarget]
  obtain h | h := lt_or_ge (tc + n.toNat) (2 ^ p.tickW)
  · exact .inl ⟨h, Nat.mod_eq_of_lt h⟩
  · refine .inr ⟨h, ?_⟩
    rw [Nat.mod_eq_sub_mod h, Nat.mod_eq_of_lt (by omega)]

theorem delayTarget_le_iff {p : Params} (hok : p.wellFormed = true) {tc : Nat} (htc : tc < 2 ^ p.tickW) (n : BitVec 8) :
    delayTarget p tc n ≤ tc ↔ n = 0#8 ∨ 2 ^ p.tickW ≤ tc + n.toNat := by
  have hn := eight_bits_lt hok n
  have hzero : n = 0#8 ↔ n.toNat = 0 := by rw [← BitVec.toNat_inj]; rfl
  rw [hzero]
  obtain ⟨h, ht⟩ | ⟨h, ht⟩ := delayTarget_cases hok htc n <;> rw [ht] <;> omega

/-- In the acceptance step the client's operation does its effect. -/
theorem step_offerFg {s : State} {i : Instr} {es : List Turn} (h : s.turns = offerFg i :: es)
    (hp : s.powerState = .active) (hq : s.seq = .cFun) (hb : s.busy = false) (hi : s.isr = false)
    (hmay : mayIssue .client i = true) : step s = .next (effect i s.begin) := by
  have hissuer : s.begin.issuer = .client := issuer_client hi hq
  rw [step_offer h hp hb hq, issueWord_ok (decode_encode i), exec_of_mayIssue (hissuer ▸ hmay)]

/-- A client's DELAY at or past its target ends at its poll, with response 0 (R85). -/
theorem step_delay_done {s : State} {d : Drive} {es : List Turn} (h : s.turns = .fg d :: es)
    (hp : s.powerState = .active) (hq : s.seq = .cFun) (hb : s.busy = true) (hi : s.isr = false)
    (hop : s.curOp = 0x4#4) (ht : s.tRef ≤ s.tc) :
    ∃ u, step s = .next u ∧ u.busy = false ∧ u.response = some (.done 0x00#8) ∧ u.tc = s.tc := by
  have hdone := pollStep_delay_done (s := s.begin) hop ht
  rw [finishWait_of_issuer (s := s.begin) (issuer_client hi hq)] at hdone
  exact ⟨_, step_poll_withClient h hp hb hdone, rfl, rfl, rfl⟩

end Sys2Proof.Machine

namespace Sys2Proof.Proofs

open Sys2Proof.Machine

/-- Settles O50: the polls before the least match do not complete, the one at it does (`run_waitPattern`), and what
follows is by the state the wait is in. -/
theorem waitPatternReturnsWaitResult : Obligations.WaitPatternReturnsWaitResult := by
  intro s bs es hp hb hop hzero hi hclk htie htc hturns
  have hwait : DenseWait s bs es := ⟨hp, hb, hclk, htie, hturns⟩
  have hbusy : ∀ j, j ≤ bs.length → (∀ i, i ≤ j → historyAfter s.sh bs i &&& s.opB ≠ s.opA) →
      ∃ u, run (1 + 3 * j) s = .next u ∧ u.busy = true ∧ u.seq = s.seq ∧ u.long = s.long ∧ u.response = none := by
    intro j hj hm
    obtain ⟨u, hrun, hu, -, hr⟩ := run_poll_unfinished hwait hj fun i hi => beforePoll_unmatched hop (hm i hi)
    exact ⟨u, hrun, hu.busy.trans hb, hu.seq, hu.long, hr⟩
  refine ⟨fun k z hk => ?found, fun hnone => ?notFound⟩
  case notFound =>
    exact hbusy _ le_rfl fun i hi => not_matched_of_waitResultFrom_eq_none hnone hi
  case found =>
    have hl : LeastMatch s.sawZero s.sh s.opA s.opB bs k z := by
      rw [hzero]
      exact (waitResultFrom_eq_some_iff _ _ _ _ _ _ _).mp hk
    refine ⟨?completes, fun j hj => hbusy j (hj.le.trans hl.within) fun i hi => hl.least i (by omega)⟩
    obtain ⟨u, hu, hz, hrun⟩ := run_waitPattern hwait hop hl
    obtain ⟨l, q, hadv, -⟩ := settleAdvance_eq (patternDone u.begin)
    have hisr : u.begin.isr = false := hu.isr.trans hi
    have hsilent : s.seq ≠ .cFun → (settleAdvance (patternDone u.begin)).response = none := by
      intro hq
      rw [hadv]
      exact response_of_ctrl (s := u.begin) hisr (by rw [begin_seq, hu.seq]; exact hq) rfl
    refine ⟨_, hrun, by rw [hadv]; rfl, by rw [hadv]; exact hz, ?_, fun hq => ?_, fun hq => ?_, fun hq => ?_, fun hq => ?_⟩
    · rw [hadv]
      exact hu.tc.trans (iterate_tickSucc htc k)
    · have huq : u.begin.seq = .cFun := hu.seq.trans hq
      rw [settleAdvance_cFun (s := patternDone u.begin) huq, patternDone_response hisr huq]
      exact ⟨huq, hu.long, by rw [begin_sawZero, begin_sh, hz]; rfl⟩
    · refine ⟨?_, ?_, hsilent (by simp [hq])⟩ <;>
        rw [settleAdvance_cSettleA (s := patternDone u.begin) (hu.seq.trans hq)]
      exact hu.long
    · refine ⟨?_, ?_, hsilent (by simp [hq])⟩ <;>
        rw [settleAdvance_cSettleB (s := patternDone u.begin) (hu.seq.trans hq)]
      exact hu.long
    · refine ⟨?_, ?_, hsilent (by simp [hq])⟩ <;>
        rw [settleAdvance_cSettleC (s := patternDone u.begin) (hu.seq.trans hq)]
      exact hz

/-- Settles O47: the target is the sum, or the sum wrapped once; and the poll before any tick compares it with the
count the entry step read. -/
theorem delayIsTooShortExactlyWhenItWraps : Obligations.DelayIsTooShortExactlyWhenItWraps := by
  intro s n hok htc
  have hle := delayTarget_le_iff hok htc n
  refine ⟨hle, fun hlt => ?sum, fun d es h hp hq hb hi => ?polled⟩
  case sum =>
    obtain ⟨-, ht⟩ | ⟨hge, -⟩ := delayTarget_cases hok htc n
    · exact ht
    · omega
  case polled =>
    have henter := step_offerFg h hp hq hb hi (by rfl)
    have hturns : (effect (.delay n) s.begin).turns = .fg d :: es := by simp [effect, h]
    have hrun : ∀ u, step (effect (.delay n) s.begin) = .next u → run 2 s = .next u :=
      fun u hu => (run_succ henter).trans (run_succ hu)
    obtain hlt | hge := lt_or_ge s.tc (delayTarget s.params s.tc n)
    · have hpoll : step (effect (.delay n) s.begin) = .next (effect (.delay n) s.begin).begin :=
        step_poll_unanswered hturns hp rfl (pollStep_delay_waiting (s := (effect (.delay n) s.begin).begin) rfl hlt) rfl
      have hnot : ¬(n = 0#8 ∨ 2 ^ s.params.tickW ≤ s.tc + n.toNat) := fun h => by
        have := hle.mpr h
        omega
      exact ⟨_, _, run_succ henter, rfl, rfl, hrun _ hpoll, iff_of_false (by simp [effect]) hnot, nofun, fun _ => rfl⟩
    · obtain ⟨u, hstep, hbusy, hresponse, -⟩ := step_delay_done hturns hp hq rfl hi rfl hge
      exact ⟨_, u, run_succ henter, rfl, rfl, hrun u hstep, iff_of_true hbusy (hle.mp hge), fun _ => hresponse,
        fun hb => absurd (hbusy.symm.trans hb) (by simp)⟩

end Sys2Proof.Proofs
end

section
/-! PROOFS. Whole runs under one poll per tick: DELAY after a CLK_START (40_sample_clock.md R86), and the settling steps
(a) and (c) (42_power_and_system.md R136, R138, 70_reset_and_hazards.md R206). -/

namespace Sys2Proof.Machine

/-- Where it does not wrap the count is the sum (R87). -/
theorem iterate_tickSucc_of_lt {p : Params} {c n : Nat} (h : c + n < 2 ^ p.tickW) : (tickSucc p)^[n] c = c + n := by
  rw [iterate_tickSucc (by omega), Nat.mod_eq_of_lt h]

/-! ### CLK_START, then DELAY -/

/-- After CLK_START and the lines of `bs₀` the client's next operation meets the count of the lines (R86). -/
theorem run_clkStart_lines {s : State} {bs₀ : List Bool} {es : List Turn} (hp : s.powerState = .active)
    (hq : s.seq = .cFun) (hb : s.busy = false) (hi : s.isr = false) (htie : s.tie = true)
    (hlt : bs₀.length < 2 ^ s.params.tickW) (h : s.turns = offerFg .clkStart :: (bs₀.flatMap lineT ++ es)) :
    ∃ t, run (1 + 2 * bs₀.length) s = .next t ∧ SamePlace s t ∧ t.tc = bs₀.length ∧ t.turns = es := by
  have hstart := step_offerFg h hp hq hb hi rfl
  obtain ⟨t, hrun, ht, -, htc, hturns⟩ := run_lines (s := effect .clkStart s.begin) (bs := bs₀) (es := es) hp rfl htie
    (by simp [effect, h])
  refine ⟨t, (run_add (run_succ hstart)).trans hrun, ?_, ?_, hturns⟩
  · exact ⟨ht.active, ht.running, ht.unmasked, ht.params, ht.long, ht.seq, ht.busy, ht.curOp, ht.opA, ht.opB, ht.tRef,
      ht.isr⟩
  · rw [htc]
    exact (iterate_tickSucc_of_lt (by simpa [effect] using hlt)).trans (Nat.zero_add _)

/-! ### The settling waits -/

/-- A settling state's wait is entered in the foreground's next step, with `saw_zero` clear (R136 to R138). -/
theorem step_settle_enters {s : State} {bs : List Bool} {es : List Turn} {e m : Hist}
    (h : s.turns = quietFg :: (quietFg :: denseTurns bs ++ es)) (hp : s.powerState = .active) (hb : s.busy = false)
    (hi : s.isr = false) (hclk : s.clkRun = true) (htie : s.tie = true) (hq : s.seq ≠ .cFun)
    (hm : seqMove Port.quiet s.seq = .ctrl (.waitPattern e m) s.seq) :
    ∃ u, step s = .next u ∧ DenseWait u bs es ∧ u.curOp = 0x7#4 ∧ u.sawZero = false ∧ u.opA = e ∧ u.opB = m ∧
      u.sh = s.sh ∧ u.seq = s.seq ∧ u.long = s.long ∧ u.tc = s.tc ∧ u.params = s.params :=
  ⟨_, step_ctrl h hp hb hi hm rfl hq hq, ⟨hp, rfl, hclk, htie, by simp [effect, h]⟩, rfl, rfl, rfl, rfl, rfl, rfl, rfl,
    rfl, rfl⟩

/-- A history with a 0 where a pattern wants a 1 does not have the pattern. -/
theorem unmatched_of_bit {h expected mask : Hist} (i : Nat) (hbit : h.getLsbD i = false)
    (he : expected.getLsbD i = true) : h &&& mask ≠ expected := by
  rintro rfl
  rw [BitVec.getLsbD_and, hbit, Bool.false_and] at he
  cases he

/-! #### Step (c): one clean press -/

/-- The samples of one clean press that began with three: `k` more pressed ones and three released ones. -/
def pressSamples (k : Nat) : List Bool := List.replicate k false ++ [true, true, true]

theorem pressSamples_length (k : Nat) : (pressSamples k).length = k + 3 := by simp [pressSamples]

theorem pressSamples_pressed {k i : Nat} (hi : i < k) : (pressSamples k).getD i false = false := by
  rw [pressSamples, List.getD_append _ _ _ _ (by simpa using hi), List.getD_replicate _ hi]

theorem pressSamples_released {k i : Nat} (hi : k ≤ i) (hi' : i < k + 3) : (pressSamples k).getD i false = true := by
  rw [pressSamples, List.getD_append_right _ _ _ _ (by simpa using hi), List.length_replicate]
  obtain h | h | h : i - k = 0 ∨ i - k = 1 ∨ i - k = 2 := by omega
  all_goals rw [h]; rfl

/-- A history has a pattern of ones where it has all of them. -/
theorem and_eq_of_bits {h m : Hist} (hbits : ∀ i, i < 8 → m.getLsbD i = true → h.getLsbD i = true) :
    h &&& m = m := by
  apply BitVec.eq_of_getLsbD_eq
  intro i hi
  rw [BitVec.getLsbD_and]
  cases hm : m.getLsbD i with
  | false => exact Bool.and_false _
  | true => rw [hbits i hi hm, Bool.and_true]

/-- At the third released sample the last three are released. -/
theorem press_matched (h : Hist) (k : Nat) : historyAfter h (pressSamples k) (k + 3) &&& 0x07#8 = 0x07#8 := by
  refine and_eq_of_bits fun i hi hm => ?_
  have hlt : i < 3 := (by decide : ∀ i, i < 8 → (0x07#8).getLsbD i = true → i < 3) i hi hm
  rw [historyAfter_getLsbD _ _ (pressSamples_length k).ge hi, if_pos (by omega),
    pressSamples_released (by omega) (by omega)]

section
variable {h : Hist} (hlow : h &&& 0x0F#8 = 0x08#8)
include hlow

/-- As step (b) leaves the history: the last three samples pressed, the one before them released. -/
theorem low_pressed {i : Nat} (hi : i < 3) : h.getLsbD i = false := by
  have hbit := congrArg (·.getLsbD i) hlow
  obtain rfl | rfl | rfl : i = 0 ∨ i = 1 ∨ i = 2 := by omega
  all_goals simpa using hbit

theorem low_released : h.getLsbD 3 = true := by
  simpa using congrArg (·.getLsbD 3) hlow

/-- Before the third released sample there is a pressed one among the last three. -/
theorem press_unmatched {k j : Nat} (hj : j < k + 3) :
    historyAfter h (pressSamples k) j &&& 0x07#8 ≠ 0x07#8 := by
  have hbit : (historyAfter h (pressSamples k) j).getLsbD (j - k) = false := by
    rw [historyAfter_getLsbD _ _ (by rw [pressSamples_length]; omega) (by omega)]
    by_cases hlt : j - k < j
    · rw [if_pos hlt, pressSamples_pressed (by omega)]
    · rw [if_neg hlt, low_pressed hlow (by omega)]
  refine unmatched_of_bit (j - k) hbit ?_
  obtain hd | hd | hd : j - k = 0 ∨ j - k = 1 ∨ j - k = 2 := by omega
  all_goals rw [hd]; rfl

/-- The history was all zero on the way iff five more samples were pressed: until then the released sample before the
press is still in it, and afterwards the first one after it. -/
theorem press_zero_iff (k : Nat) :
    (∃ j, j ≤ k + 3 ∧ historyAfter h (pressSamples k) j = 0x00#8) ↔ 5 ≤ k := by
  have hbits : ∀ {j i}, j ≤ k + 3 → i < 8 → (historyAfter h (pressSamples k) j).getLsbD i =
      if i < j then (pressSamples k).getD (j - 1 - i) false else h.getLsbD (i - j) :=
    fun hj hi => historyAfter_getLsbD _ _ (by rw [pressSamples_length]; exact hj) hi
  constructor
  · rintro ⟨j, hj, hz⟩
    by_contra hk
    obtain hjk | hjk := le_or_gt j k
    · have hbit := hbits hj (i := 3 + j) (by omega)
      rw [hz, if_neg (by omega), Nat.add_sub_cancel, low_released hlow] at hbit
      simp at hbit
    · have hbit := hbits hj (i := j - k - 1) (by omega)
      rw [hz, if_pos (by omega), pressSamples_released (by omega) (by omega)] at hbit
      simp at hbit
  · intro hk
    refine ⟨5, by omega, BitVec.eq_of_getLsbD_eq fun i hi => ?_⟩
    rw [hbits (by omega) hi]
    by_cases hi5 : i < 5
    · rw [if_pos hi5, pressSamples_pressed (by omega), BitVec.getLsbD_zero]
    · rw [if_neg hi5, low_pressed hlow (by omega), BitVec.getLsbD_zero]

/-- The press ends step (c)'s wait at its third released sample, long from eight samples on (R138, R206). -/
theorem leastMatch_press (k : Nat) :
    LeastMatch false h 0x07#8 0x07#8 (pressSamples k) (k + 3) (decide (8 ≤ k + 3)) where
  within := (pressSamples_length k).ge
  matched := press_matched h k
  least _ hj := press_unmatched hlow hj
  sawZero := by
    rw [press_zero_iff hlow, decide_eq_true_iff]
    simp

end

/-! #### Step (a): five samples after the reseed -/

/-- The reseed's low five bits are pressed ones: fewer than five samples leave one of them (R136). -/
theorem seed_unmatched {bs : List Bool} {j : Nat} (hj : j ≤ bs.length) (hlt : j < 5) :
    historyAfter Config.seed bs j &&& 0x1F#8 ≠ 0x1F#8 := by
  refine unmatched_of_bit 4 ?_ rfl
  rw [historyAfter_getLsbD _ _ hj (by omega), if_neg (by omega)]
  exact (by decide : ∀ i, i ≤ 4 → Config.seed.getLsbD i = false) _ (by omega)

/-- Five released samples are the pattern. -/
theorem released_matched {h : Hist} {bs : List Bool} (hlen : bs.length = 5) (hall : ∀ b ∈ bs, b = true) :
    historyAfter h bs 5 &&& 0x1F#8 = 0x1F#8 := by
  refine and_eq_of_bits fun i hi hm => ?_
  have hlt : i < 5 := (by decide : ∀ i, i < 8 → (0x1F#8).getLsbD i = true → i < 5) i hi hm
  have hidx : 5 - 1 - i < bs.length := by omega
  rw [historyAfter_getLsbD _ _ hlen.ge hi, if_pos hlt, List.getD_eq_getElem _ _ hidx]
  exact hall _ (List.getElem_mem hidx)

/-- C_RESEED and C_START leave the reseed in the history, the count at 0 and the clock running (R134, R135). -/
theorem run_reseed_start {s : State} {es : List Turn} (hp : s.powerState = .active) (hq : s.seq = .cReseed)
    (hb : s.busy = false) (hi : s.isr = false) (h : s.turns = quietFg :: quietFg :: es) :
    ∃ t, run 2 s = .next t ∧ t.powerState = .active ∧ t.busy = false ∧ t.isr = false ∧ t.clkRun = true ∧
      t.tie = s.tie ∧ t.seq = .cSettleA ∧ t.params = s.params ∧ t.sh = Config.seed ∧ t.tc = 0 ∧ t.turns = es := by
  have hreseed := step_ctrl (i := .reset Config.seed) (n := .cStart) h hp hb hi (by rw [hq]; rfl) rfl (by simp [hq])
    (by simp)
  have hturns : ({ effect (.reset Config.seed) s.begin with seq := .cStart } : State).turns = quietFg :: es := by
    simp [effect, h]
  have hstart := step_ctrl (i := .clkStart) (n := .cSettleA) hturns hp hb hi rfl rfl (by simp) (by simp)
  exact ⟨_, (run_succ hreseed).trans (run_succ hstart), hp, hb, hi, rfl, rfl, rfl, rfl, rfl, rfl, by
    simp [effect, h]⟩

/-- From C_RESEED to the entry of step (a)'s wait: the history is the reseed and the samples since, the count the ticks
since the clock start. -/
theorem run_reseed_settles {s : State} {bs₀ bs : List Bool} {es : List Turn} (hp : s.powerState = .active)
    (hq : s.seq = .cReseed) (hb : s.busy = false) (hi : s.isr = false) (htie : s.tie = true)
    (hlt : bs₀.length < 2 ^ s.params.tickW)
    (h : s.turns = quietFg :: quietFg :: (bs₀.flatMap lineT ++ (quietFg :: (quietFg :: denseTurns bs ++ es)))) :
    ∃ u, run (3 + 2 * bs₀.length) s = .next u ∧ DenseWait u bs es ∧ u.curOp = 0x7#4 ∧ u.opA = 0x1F#8 ∧
      u.opB = 0x1F#8 ∧ u.seq = .cSettleA ∧ u.params = s.params ∧ u.tc = bs₀.length ∧
      u.sh = historyAfter Config.seed bs₀ bs₀.length := by
  obtain ⟨r, hstart, hrp, hrb, hri, hrclk, hrtie, hrq, hrparams, hrsh, hrtc, hrturns⟩ := run_reseed_start hp hq hb hi h
  obtain ⟨t, hlines, ht, hsh, htc, hturns⟩ := run_lines hrp hrclk (hrtie.trans htie) hrturns
  have htq : t.seq = .cSettleA := ht.seq.trans hrq
  obtain ⟨u, hu, hwait, hop, -, hA, hB, hush, huq, -, hutc, huparams⟩ := step_settle_enters (e := 0x1F#8)
    (m := 0x1F#8) hturns ht.active (ht.busy.trans hrb) (ht.isr.trans hri) ht.running ht.unmasked
    (by simp [htq]) (by rw [htq]; rfl)
  refine ⟨u, ?_, hwait, hop, hA, hB, huq.trans htq, huparams.trans (ht.params.trans hrparams), ?_, ?_⟩
  · rw [show 3 + 2 * bs₀.length = 2 + (2 * bs₀.length + 1) by omega]
    exact (run_add hstart).trans ((run_add hlines).trans (run_succ hu))
  · rw [hutc, htc, hrtc, iterate_tickSucc_of_lt (by rw [hrparams]; omega), Nat.zero_add]
  · rw [hush, hsh, hrsh]

end Sys2Proof.Machine

namespace Sys2Proof.Proofs

open Sys2Proof.Machine

/-- Settles O48: the DELAY's target is the count at its entry plus `n`, so that the polls before the `n`-th tick fall
short of it and the one after reaches it. -/
theorem delayAfterAClockResetTakesItsTicks : Obligations.DelayAfterAClockResetTakesItsTicks := by
  intro s n bs₀ bs es hp hq hb hi htie _ hok _ hlen hlt hturns
  obtain ⟨t, hstart, ht, htc, hturns₁⟩ := run_clkStart_lines (bs₀ := bs₀)
    (es := offerFg (.delay n) :: (quietFg :: denseTurns bs ++ es))
    hp hq hb hi htie (by omega) (by simpa using hturns)
  have henter := step_offerFg hturns₁ ht.active (ht.seq.trans hq) (ht.busy.trans hb) (ht.isr.trans hi) rfl
  generalize hv : effect (.delay n) t.begin = v at henter
  have hwait : DenseWait v bs es := by
    subst hv
    exact ⟨ht.active, rfl, ht.running, ht.unmasked, by simp [effect, hturns₁]⟩
  obtain ⟨hop, hvtc, hvparams, hvref, hvseq, hvisr⟩ : v.curOp = 0x4#4 ∧ v.tc = bs₀.length ∧ v.params = s.params ∧
      v.tRef = delayTarget t.params t.tc n ∧ v.seq = .cFun ∧ v.isr = false := by
    subst hv
    exact ⟨rfl, htc, ht.params, rfl, ht.seq.trans hq, ht.isr.trans hi⟩
  have htarget : v.tRef = bs₀.length + n.toNat := by
    rw [hvref, ht.params, htc]
    obtain ⟨-, h⟩ | ⟨h, -⟩ := delayTarget_cases hok (tc := bs₀.length) (by omega) n
    · exact h
    · omega
  have hcount : ∀ i, i ≤ n.toNat → (tickSucc v.params)^[i] v.tc = bs₀.length + i := fun i hin => by
    rw [iterate_tickSucc_of_lt (by rw [hvparams, hvtc]; omega), hvtc]
  have hun : ∀ i, i < n.toNat → Unfinished (beforePoll v bs i) := fun i hin =>
    .inr (.inl ⟨hop, by
      change (tickSucc v.params)^[i] v.tc < v.tRef
      rw [hcount i hin.le, htarget]
      omega⟩)
  have hrun : ∀ m, run (2 + 2 * bs₀.length + m) s = run m v := fun m => by
    rw [show 2 + 2 * bs₀.length + m = 1 + 2 * bs₀.length + (m + 1) by omega]
    exact (run_add hstart).trans (run_succ henter)
  constructor
  · obtain ⟨u, hrounds, hu⟩ := run_rounds hwait hlen.ge hun
    have hutc : u.tc = bs₀.length + n.toNat := hu.tc.trans (hcount _ le_rfl)
    obtain ⟨w, hw, hdone, hresponse, hwtc⟩ := step_delay_done hu.turns hu.active (hu.seq.trans hvseq)
      (hu.busy.trans hwait.busy) (hu.isr.trans hvisr) (hu.curOp.trans hop) (by rw [hu.tRef, htarget, hutc])
    refine ⟨w, ?_, hdone, hresponse, by rw [hwtc, hutc, Nat.add_comm]⟩
    rw [show 3 + 2 * bs₀.length + 3 * n.toNat = 2 + 2 * bs₀.length + (3 * n.toNat + 1) by omega, hrun]
    exact (run_add hrounds).trans (run_succ hw)
  · intro k hk
    obtain ⟨u, hpolls, hu, -⟩ := run_poll_unfinished hwait (hk.le.trans hlen.ge) fun i hi => hun i (by omega)
    refine ⟨u, ?_, hu.busy.trans hwait.busy⟩
    rw [show 3 + 2 * bs₀.length + 3 * k = 2 + 2 * bs₀.length + (1 + 3 * k) by omega, hrun]
    exact hpolls

/-- Settles O51: the wait of step (c) is entered and ends at the least match, the third released sample, with the zero
observation as `long`. -/
theorem cleanPressIsLongFromEightSamples : Obligations.CleanPressIsLongFromEightSamples := by
  intro s k es hp hq hb hi hclk htie hlow hturns
  obtain ⟨v, henter, hwait, hop, hzero, hA, hB, hsh, hvq, hlong, -⟩ := step_settle_enters (e := 0x07#8) (m := 0x07#8)
    (bs := pressSamples k) hturns hp hb hi hclk htie (by simp [hq]) (by rw [hq]; rfl)
  have hl : LeastMatch v.sawZero v.sh v.opA v.opB (pressSamples k) (k + 3) (decide (8 ≤ k + 3)) := by
    rw [hzero, hsh, hA, hB]
    exact leastMatch_press hlow k
  have hrun : ∀ j, run (2 + 3 * j) s = run (1 + 3 * j) v := fun j => by
    rw [show 2 + 3 * j = 1 + 3 * j + 1 by omega]
    exact run_succ henter
  constructor
  · intro j hj
    obtain ⟨u, hpolls, hu, -⟩ := run_poll_unfinished hwait (hj.le.trans hl.within) fun i hi =>
      beforePoll_unmatched hop (hl.least i (by omega))
    exact ⟨u, (hrun j).trans hpolls, hu.seq.trans (hvq.trans hq), hu.busy.trans hwait.busy, hu.long.trans hlong⟩
  · obtain ⟨u, hu, hz, hlast⟩ := run_waitPattern hwait hop hl
    rw [settleAdvance_cSettleC (s := patternDone u.begin) (hu.seq.trans (hvq.trans hq))] at hlast
    exact ⟨_, (hrun _).trans hlast, rfl, rfl, hz⟩

/-- Settles O52: fewer than five samples leave a bit of the reseed in step (a)'s pattern (`seed_unmatched`), five
released ones are the pattern. -/
theorem settlingStepAWaitsForFiveSamples : Obligations.SettlingStepAWaitsForFiveSamples := by
  intro s bs₀ bs es hp hq hb hi htie hok hbs₀ hturns
  have hroom : 2 ^ 8 ≤ 2 ^ s.params.tickW := Nat.pow_le_pow_right (by omega) (eight_le_tickW hok)
  obtain ⟨v, henter, hwait, hop, hA, hB, hvq, hparams, htc, hsh⟩ := run_reseed_settles (bs₀ := bs₀) (bs := bs)
    (es := es) hp hq hb hi htie (by omega) (by simpa using hturns)
  have hhist : ∀ i, historyAfter v.sh bs i = historyAfter Config.seed (bs₀ ++ bs) (bs₀.length + i) := fun i => by
    rw [hsh, historyAfter_append]
  have hcount : ∀ i, bs₀.length + i ≤ 5 → (tickSucc v.params)^[i] v.tc = bs₀.length + i := fun i hi => by
    rw [iterate_tickSucc_of_lt (by rw [hparams, htc]; omega), htc]
  have hunmatched : ∀ i, i ≤ bs.length → bs₀.length + i < 5 → historyAfter v.sh bs i &&& v.opB ≠ v.opA := by
    intro i hi hlt
    rw [hhist, hA, hB]
    exact seed_unmatched (by simpa using hi) hlt
  have hrun : ∀ j, run (4 + 2 * bs₀.length + 3 * j) s = run (1 + 3 * j) v := fun j => by
    rw [show 4 + 2 * bs₀.length + 3 * j = 3 + 2 * bs₀.length + (1 + 3 * j) by omega]
    exact run_add henter
  constructor
  · intro j hj hlt
    obtain ⟨u, hpolls, hu, hutc, -⟩ := run_poll_unfinished hwait hj fun i hi =>
      beforePoll_unmatched hop (hunmatched i (by omega) (by omega))
    exact ⟨u, (hrun j).trans hpolls, hu.seq.trans hvq, hu.busy.trans hwait.busy, hutc.trans (hcount j hlt.le)⟩
  · intro hfive hall
    have hl : LeastMatch v.sawZero v.sh v.opA v.opB bs bs.length
        (decide (v.sawZero = true ∨ ∃ i, i ≤ bs.length ∧ historyAfter v.sh bs i = 0x00#8)) :=
      { within := le_rfl
        matched := by
          rw [hhist, hfive, hA, hB]
          exact released_matched (by simpa using hfive) hall
        least := fun i hi => hunmatched i hi.le (by omega)
        sawZero := by simp }
    obtain ⟨u, hu, -, hlast⟩ := run_waitPattern hwait hop hl
    rw [settleAdvance_cSettleA (s := patternDone u.begin) (hu.seq.trans hvq)] at hlast
    exact ⟨_, (hrun _).trans hlast, rfl, rfl, hu.tc.trans ((hcount _ hfive.le).trans hfive)⟩

end Sys2Proof.Proofs
end
